-- ==== Sys2Proof/Word.lean ====
section
/-! DEFINITION. The word types of the core (spec 00_scope.md R8, R11): a 32-bit word, a byte, and the two access sizes. -/

namespace Sys2Proof

/-- A 32-bit word: a register, an address, a value on the bus (R8). -/
abbrev Word := BitVec 32

/-- One byte, the smallest addressable unit (R8). -/
abbrev Byte := BitVec 8

/-- The two access sizes of the core; there is no other (R60, R65). -/
inductive Size where
  | byte
  | word
  deriving DecidableEq, Repr

end Sys2Proof
end

