-- ==== Sys2Proof/Syntax.lean ====
section
/-! DEFINITION. The instructions: one constructor of `Instr` for each of the 45 rows of spec/opcode_table.json
(30_encoding.md R130 to R149), and one more for the words of the row UPP_TRAP that R150 (a) and U4 take out of it. A field the core ignores (R150) is kept, so that each word reads as exactly one
instruction and no bit of an encoding is dropped. -/

namespace Sys2Proof

/-- The number of a general register, 0..15; 15 is the program counter (R20, R21). -/
abbrev Reg := Fin 16

/-- The condition field of R166 without NV: a word whose condition is NV is the instruction `nvAny` (R147). -/
inductive Cond where
  | eq | ne | cs | cc | mi | pl | vs | vc | hi | ls | ge | lt | gt | le | al
  deriving DecidableEq, Repr

/-- The shift type of R143. -/
inductive Shift where
  | lsl | lsr | asr | ror
  deriving DecidableEq, Repr

/-- The second operand of a data-processing instruction (R142, R143, R182). -/
inductive Operand2 where
  /-- `I = 1`: an 8-bit immediate rotated right by twice `rot` (R142) -/
  | imm (rot : BitVec 4) (imm8 : BitVec 8)
  /-- `I = 0`, bit 4 = 0: register shifted by an immediate amount -/
  | shiftImm (rm : Reg) (sh : Shift) (amt : BitVec 5)
  /-- `I = 0`, bit 4 = 1, bit 7 = 0: register shifted by the low byte of a register -/
  | shiftReg (rm : Reg) (sh : Shift) (rs : Reg)
  /-- `I = 0`, bit 4 = 1, bit 7 = 1: the words of R150 (a), which the spec does not describe (U4) -/
  | bits4And7 (rm : Reg) (sh : Shift) (rs : Reg)
  deriving DecidableEq, Repr

/-- The offset of a single data transfer (R136, R145). -/
inductive Offset where
  | imm (imm12 : BitVec 12)
  | shifted (rm : Reg) (sh : Shift) (amt : BitVec 5)
  deriving DecidableEq, Repr

/-- The instruction set. `c` is the condition, `sf` the set-flags bit S, `sbz` a field the core ignores. -/
inductive Instr where
  -- data processing (R132, R195)
  | and (c : Cond) (sf : Bool) (rn rd : Reg) (op2 : Operand2)
  | eor (c : Cond) (sf : Bool) (rn rd : Reg) (op2 : Operand2)
  | sub (c : Cond) (sf : Bool) (rn rd : Reg) (op2 : Operand2)
  | rsb (c : Cond) (sf : Bool) (rn rd : Reg) (op2 : Operand2)
  | add (c : Cond) (sf : Bool) (rn rd : Reg) (op2 : Operand2)
  | adc (c : Cond) (sf : Bool) (rn rd : Reg) (op2 : Operand2)
  | sbc (c : Cond) (sf : Bool) (rn rd : Reg) (op2 : Operand2)
  | rsc (c : Cond) (sf : Bool) (rn rd : Reg) (op2 : Operand2)
  | tst (c : Cond) (rn : Reg) (sbz : BitVec 4) (op2 : Operand2)
  | teq (c : Cond) (rn : Reg) (sbz : BitVec 4) (op2 : Operand2)
  | cmp (c : Cond) (rn : Reg) (sbz : BitVec 4) (op2 : Operand2)
  | cmn (c : Cond) (rn : Reg) (sbz : BitVec 4) (op2 : Operand2)
  | orr (c : Cond) (sf : Bool) (rn rd : Reg) (op2 : Operand2)
  | mov (c : Cond) (sf : Bool) (sbz : BitVec 4) (rd : Reg) (op2 : Operand2)
  | bic (c : Cond) (sf : Bool) (rn rd : Reg) (op2 : Operand2)
  | mvn (c : Cond) (sf : Bool) (sbz : BitVec 4) (rd : Reg) (op2 : Operand2)
  -- PSR transfer (R133, R218)
  | mrsCpsr (c : Cond) (rd : Reg)
  | mrsSpsr (c : Cond) (rd : Reg)
  | msrCpsr (c : Cond) (rm : Reg)
  | msrCpsrFlgReg (c : Cond) (rm : Reg)
  | msrCpsrFlgImm (c : Cond) (rot : BitVec 4) (imm8 : BitVec 8)
  | msrSpsr (c : Cond) (rm : Reg)
  | msrSpsrFlgReg (c : Cond) (rm : Reg)
  | msrSpsrFlgImm (c : Cond) (rot : BitVec 4) (imm8 : BitVec 8)
  -- multiply (R134)
  | mul (c : Cond) (sf : Bool) (rd : Reg) (sbz : BitVec 4) (rs rm : Reg)
  | mla (c : Cond) (sf : Bool) (rd rn rs rm : Reg)
  -- single data swap (R135)
  | swp (c : Cond) (rn rd rm : Reg)
  | swpb (c : Cond) (rn rd rm : Reg)
  -- single data transfer (R136): `p` pre-indexed, `u` up, `w` write-back
  | ldr (c : Cond) (p u w : Bool) (rn rd : Reg) (off : Offset)
  | ldrb (c : Cond) (p u w : Bool) (rn rd : Reg) (off : Offset)
  | str (c : Cond) (p u w : Bool) (rn rd : Reg) (off : Offset)
  | strb (c : Cond) (p u w : Bool) (rn rd : Reg) (off : Offset)
  -- block data transfer (R137): `sb` the S bit
  | ldm (c : Cond) (p u sb w : Bool) (rn : Reg) (list : BitVec 16)
  | stm (c : Cond) (p u sb w : Bool) (rn : Reg) (list : BitVec 16)
  -- branch (R138), software interrupt (R139), CP15 register transfer (R140)
  | b (c : Cond) (off24 : BitVec 24)
  | bl (c : Cond) (off24 : BitVec 24)
  | swi (c : Cond) (comment : BitVec 24)
  | mrc (c : Cond) (opc1 : BitVec 3) (crn : BitVec 4) (rd : Reg) (opc2 : BitVec 3) (crm : BitVec 4)
  | mcr (c : Cond) (opc1 : BitVec 3) (crn : BitVec 4) (rd : Reg) (opc2 : BitVec 3) (crm : BitVec 4)
  -- the undefined-instruction space (R148 a to d)
  | undefined011x1 (c : Cond) (hi : BitVec 20) (lo : BitVec 4)
  | undefinedLdcStc (c : Cond) (low25 : BitVec 25)
  | undefinedCdp (c : Cond) (hi : BitVec 19) (lo : BitVec 4)
  | undefinedMrcMcrNotP15 (c : Cond) (hi : BitVec 12) (cpNum : BitVec 4) (mid : BitVec 3) (lo : BitVec 4)
  -- the unrecognised privileged patterns (R149); those of R150 (a), with bit 25 clear and bits 4 and 7 set, which the
  -- spec does not describe (U4); and the condition NV (R147)
  | uppTrap (c : Cond) (imm : Bool) (opLow : BitVec 2) (f19 f15 : BitVec 4) (f11 : BitVec 12)
  | uppBits4And7 (c : Cond) (opLow : BitVec 2) (f19 f15 f8 : BitVec 4) (f5 : BitVec 2) (f0 : BitVec 4)
  | nvAny (low28 : BitVec 28)
  deriving DecidableEq, Repr

end Sys2Proof
end

