-- ==== Sys2Proof/WellFormed.lean ====
section
/-! DEFINITION. Which terms of `Instr` are instructions: those whose word an earlier row of the dispatch order of R141
or of R218 does not take. Every other relation between fields is carried by the types. -/

namespace Sys2Proof

/-- AND and EOR whose second operand has bits 7:4 = 1001 are multiply words (R141 row 7 before row 8). -/
def Operand2.notMultiply : Operand2 → Bool
  | .bits4And7 _ .lsl _ => false
  | .bits4And7 _ _ _ => true
  | .imm _ _ => true
  | .shiftImm _ _ _ => true
  | .shiftReg _ _ _ => true

/-- A second operand of one of the three forms the spec describes (R182); the fourth is U4. -/
def Operand2.described : Operand2 → Bool
  | .imm _ _ => true
  | .shiftImm _ _ _ => true
  | .shiftReg _ _ _ => true
  | .bits4And7 _ _ _ => false

/-- The fields of an MRS word (R218, first pattern). -/
def isMrsPattern (imm : Bool) (opLow : BitVec 2) (f19 : BitVec 4) (f11 : BitVec 12) : Bool :=
  !imm && opLow.extractLsb' 0 1 == 0#1 && f19 == 0b1111#4 && f11 == 0#12

/-- The fields of an MSR word, whole or flags, register form (R218, second and third pattern). -/
def isMsrRegPattern (imm : Bool) (opLow : BitVec 2) (f19 f15 : BitVec 4) (f11 : BitVec 12) : Bool :=
  !imm && opLow.extractLsb' 0 1 == 1#1 && (f19 == 0b1001#4 || f19 == 0b1000#4) && f15 == 0b1111#4
    && f11.extractLsb' 4 8 == 0#8

/-- The fields of an MSR word, flags, immediate form (R218, fourth pattern). -/
def isMsrImmPattern (imm : Bool) (opLow : BitVec 2) (f19 f15 : BitVec 4) : Bool :=
  imm && opLow.extractLsb' 0 1 == 1#1 && f19 == 0b1000#4 && f15 == 0b1111#4

/-- The fields of a word of R150 (a), a single data swap among them. -/
def isBits4And7Pattern (imm : Bool) (f11 : BitVec 12) : Bool :=
  !imm && f11.extractLsb' 4 1 == 1#1 && f11.extractLsb' 7 1 == 1#1

/-- The fields of a single data swap word (R141 row 6, before the data-processing class). -/
def isSwapPattern (opLow : BitVec 2) (f8 : BitVec 4) (f5 : BitVec 2) : Bool :=
  opLow.extractLsb' 0 1 == 0#1 && f8 == 0#4 && f5 == 0#2

/-- The check of one instruction. -/
def Instr.check : Instr → Bool
  | .and _ _ _ _ op2 => op2.notMultiply
  | .eor _ _ _ _ op2 => op2.notMultiply
  | .sub _ _ _ _ _ => true
  | .rsb _ _ _ _ _ => true
  | .add _ _ _ _ _ => true
  | .adc _ _ _ _ _ => true
  | .sbc _ _ _ _ _ => true
  | .rsc _ _ _ _ _ => true
  | .tst _ _ _ _ => true
  | .teq _ _ _ _ => true
  | .cmp _ _ _ _ => true
  | .cmn _ _ _ _ => true
  | .orr _ _ _ _ _ => true
  | .mov _ _ _ _ _ => true
  | .bic _ _ _ _ _ => true
  | .mvn _ _ _ _ _ => true
  | .mrsCpsr _ _ => true
  | .mrsSpsr _ _ => true
  | .msrCpsr _ _ => true
  | .msrCpsrFlgReg _ _ => true
  | .msrCpsrFlgImm _ _ _ => true
  | .msrSpsr _ _ => true
  | .msrSpsrFlgReg _ _ => true
  | .msrSpsrFlgImm _ _ _ => true
  | .mul _ _ _ _ _ _ => true
  | .mla _ _ _ _ _ _ => true
  | .swp _ _ _ _ => true
  | .swpb _ _ _ _ => true
  | .ldr _ _ _ _ _ _ _ => true
  | .ldrb _ _ _ _ _ _ _ => true
  | .str _ _ _ _ _ _ _ => true
  | .strb _ _ _ _ _ _ _ => true
  | .ldm _ _ _ _ _ _ _ => true
  | .stm _ _ _ _ _ _ _ => true
  | .b _ _ => true
  | .bl _ _ => true
  | .swi _ _ => true
  | .mrc _ _ _ _ _ _ => true
  | .mcr _ _ _ _ _ _ => true
  | .undefined011x1 _ _ _ => true
  | .undefinedLdcStc _ _ => true
  | .undefinedCdp _ _ _ => true
  | .undefinedMrcMcrNotP15 _ _ cpNum _ _ => cpNum != 0b1111#4
  | .uppTrap _ imm opLow f19 f15 f11 =>
      !isMrsPattern imm opLow f19 f11 && !isMsrRegPattern imm opLow f19 f15 f11 && !isMsrImmPattern imm opLow f19 f15
        && !isBits4And7Pattern imm f11
  | .uppBits4And7 _ opLow _ _ f8 f5 _ => !isSwapPattern opLow f8 f5
  | .nvAny _ => true

/-- `i` is an instruction of the core. -/
abbrev WellFormed (i : Instr) : Prop := i.check = true

end Sys2Proof
end

