-- ==== Sys2Proof/Decode.lean ====
section
/-! DEFINITION. The decoder, total on words (30_encoding.md R131 to R149, 41_data_processing.md R218), the reading of
bytes (R64, R130), and the encoder, both from the format tables R132 to R140. -/

namespace Sys2Proof

/-! ### Fields -/

/-- `w[lo+n-1 : lo]` (R11). -/
abbrev fieldOf (w : Word) (lo n : Nat) : BitVec n := w.extractLsb' lo n

/-- `w[i]` as a Boolean. -/
abbrev flagOf (w : Word) (i : Nat) : Bool := w.extractLsb' i 1 == 1#1

/-- The register a four-bit field names. -/
abbrev regOf (w : Word) (lo : Nat) : Reg := (w.extractLsb' lo 4).toFin

/-- The four-bit field that names a register. -/
abbrev Reg.bits (r : Reg) : BitVec 4 := BitVec.ofFin r

/-- The code of a condition (R166). -/
def Cond.code : Cond → BitVec 4
  | .eq => 0b0000#4
  | .ne => 0b0001#4
  | .cs => 0b0010#4
  | .cc => 0b0011#4
  | .mi => 0b0100#4
  | .pl => 0b0101#4
  | .vs => 0b0110#4
  | .vc => 0b0111#4
  | .hi => 0b1000#4
  | .ls => 0b1001#4
  | .ge => 0b1010#4
  | .lt => 0b1011#4
  | .gt => 0b1100#4
  | .le => 0b1101#4
  | .al => 0b1110#4

/-- The condition of a code; `none` for `1111`, NV (R147, R166). -/
def Cond.ofCode (x : BitVec 4) : Option Cond :=
  if x = 0b0000#4 then some .eq
  else if x = 0b0001#4 then some .ne
  else if x = 0b0010#4 then some .cs
  else if x = 0b0011#4 then some .cc
  else if x = 0b0100#4 then some .mi
  else if x = 0b0101#4 then some .pl
  else if x = 0b0110#4 then some .vs
  else if x = 0b0111#4 then some .vc
  else if x = 0b1000#4 then some .hi
  else if x = 0b1001#4 then some .ls
  else if x = 0b1010#4 then some .ge
  else if x = 0b1011#4 then some .lt
  else if x = 0b1100#4 then some .gt
  else if x = 0b1101#4 then some .le
  else if x = 0b1110#4 then some .al
  else none

/-- The code of a shift type (R143). -/
def Shift.code : Shift → BitVec 2
  | .lsl => 0b00#2
  | .lsr => 0b01#2
  | .asr => 0b10#2
  | .ror => 0b11#2

/-- The shift type of a code (R143). -/
def Shift.ofCode (x : BitVec 2) : Shift :=
  if x = 0b00#2 then .lsl else if x = 0b01#2 then .lsr else if x = 0b10#2 then .asr else .ror

/-! ### The decoder -/

/-- The second operand of a data-processing word (R142, R143). -/
def decodeOperand2 (w : Word) : Operand2 :=
  if flagOf w 25 then .imm (fieldOf w 8 4) (fieldOf w 0 8)
  else if flagOf w 4 then
    if flagOf w 7 then .bits4And7 (regOf w 0) (Shift.ofCode (fieldOf w 5 2)) (regOf w 8)
    else .shiftReg (regOf w 0) (Shift.ofCode (fieldOf w 5 2)) (regOf w 8)
  else .shiftImm (regOf w 0) (Shift.ofCode (fieldOf w 5 2)) (fieldOf w 7 5)

/-- The offset of a single data transfer (R136, R145); bit 4 is 0 in the class when bit 25 is 1 (R141 row 5). -/
def decodeOffset (w : Word) : Offset :=
  if flagOf w 25 then .shifted (regOf w 0) (Shift.ofCode (fieldOf w 5 2)) (fieldOf w 7 5)
  else .imm (fieldOf w 0 12)

/-- The PSR-transfer space, opcode 8..0xB with S = 0: the four patterns in the order of R218, else the words of R150 (a),
else R224. -/
def decodePsr (c : Cond) (w : Word) : Instr :=
  if fieldOf w 23 5 = 0b00010#5 ∧ fieldOf w 16 6 = 0b001111#6 ∧ fieldOf w 0 12 = 0#12 then
    if flagOf w 22 then .mrsSpsr c (regOf w 12) else .mrsCpsr c (regOf w 12)
  else if fieldOf w 23 5 = 0b00010#5 ∧ fieldOf w 4 18 = 0b101001111100000000#18 then
    if flagOf w 22 then .msrSpsr c (regOf w 0) else .msrCpsr c (regOf w 0)
  else if fieldOf w 23 5 = 0b00010#5 ∧ fieldOf w 4 18 = 0b101000111100000000#18 then
    if flagOf w 22 then .msrSpsrFlgReg c (regOf w 0) else .msrCpsrFlgReg c (regOf w 0)
  else if fieldOf w 23 5 = 0b00110#5 ∧ fieldOf w 12 10 = 0b1010001111#10 then
    if flagOf w 22 then .msrSpsrFlgImm c (fieldOf w 8 4) (fieldOf w 0 8)
    else .msrCpsrFlgImm c (fieldOf w 8 4) (fieldOf w 0 8)
  else if fieldOf w 25 1 = 0#1 ∧ fieldOf w 4 1 = 1#1 ∧ fieldOf w 7 1 = 1#1 then
    .uppBits4And7 c (fieldOf w 21 2) (fieldOf w 16 4) (fieldOf w 12 4) (fieldOf w 8 4) (fieldOf w 5 2) (fieldOf w 0 4)
  else .uppTrap c (flagOf w 25) (fieldOf w 21 2) (fieldOf w 16 4) (fieldOf w 12 4) (fieldOf w 0 12)

/-- The data-processing class (R132, R180, R195). -/
def decodeDataProcessing (c : Cond) (w : Word) : Instr :=
  let op := fieldOf w 21 4
  let sf := flagOf w 20
  let rn := regOf w 16
  let rd := regOf w 12
  let op2 := decodeOperand2 w
  if op = 0b0000#4 then .and c sf rn rd op2
  else if op = 0b0001#4 then .eor c sf rn rd op2
  else if op = 0b0010#4 then .sub c sf rn rd op2
  else if op = 0b0011#4 then .rsb c sf rn rd op2
  else if op = 0b0100#4 then .add c sf rn rd op2
  else if op = 0b0101#4 then .adc c sf rn rd op2
  else if op = 0b0110#4 then .sbc c sf rn rd op2
  else if op = 0b0111#4 then .rsc c sf rn rd op2
  else if op = 0b1100#4 then .orr c sf rn rd op2
  else if op = 0b1101#4 then .mov c sf (fieldOf w 16 4) rd op2
  else if op = 0b1110#4 then .bic c sf rn rd op2
  else if op = 0b1111#4 then .mvn c sf (fieldOf w 16 4) rd op2
  else if !sf then decodePsr c w
  else if op = 0b1000#4 then .tst c rn (fieldOf w 12 4) op2
  else if op = 0b1001#4 then .teq c rn (fieldOf w 12 4) op2
  else if op = 0b1010#4 then .cmp c rn (fieldOf w 12 4) op2
  else .cmn c rn (fieldOf w 12 4) op2

/-- Multiply (R134). -/
def decodeMultiply (c : Cond) (w : Word) : Instr :=
  if flagOf w 21 then .mla c (flagOf w 20) (regOf w 16) (regOf w 12) (regOf w 8) (regOf w 0)
  else .mul c (flagOf w 20) (regOf w 16) (fieldOf w 12 4) (regOf w 8) (regOf w 0)

/-- Single data swap (R135). -/
def decodeSwap (c : Cond) (w : Word) : Instr :=
  if flagOf w 22 then .swpb c (regOf w 16) (regOf w 12) (regOf w 0)
  else .swp c (regOf w 16) (regOf w 12) (regOf w 0)

/-- Single data transfer (R136, R240). -/
def decodeSingle (c : Cond) (w : Word) : Instr :=
  let p := flagOf w 24
  let u := flagOf w 23
  let wb := flagOf w 21
  if flagOf w 20 then
    if flagOf w 22 then .ldrb c p u wb (regOf w 16) (regOf w 12) (decodeOffset w)
    else .ldr c p u wb (regOf w 16) (regOf w 12) (decodeOffset w)
  else
    if flagOf w 22 then .strb c p u wb (regOf w 16) (regOf w 12) (decodeOffset w)
    else .str c p u wb (regOf w 16) (regOf w 12) (decodeOffset w)

/-- Block data transfer (R137, R260). -/
def decodeBlock (c : Cond) (w : Word) : Instr :=
  if flagOf w 20 then
    .ldm c (flagOf w 24) (flagOf w 23) (flagOf w 22) (flagOf w 21) (regOf w 16) (fieldOf w 0 16)
  else .stm c (flagOf w 24) (flagOf w 23) (flagOf w 22) (flagOf w 21) (regOf w 16) (fieldOf w 0 16)

/-- Branch (R138, R280). -/
def decodeBranch (c : Cond) (w : Word) : Instr :=
  if flagOf w 24 then .bl c (fieldOf w 0 24) else .b c (fieldOf w 0 24)

/-- Coprocessor-15 register transfer (R140, R290). -/
def decodeCp15 (c : Cond) (w : Word) : Instr :=
  if flagOf w 20 then .mrc c (fieldOf w 21 3) (fieldOf w 16 4) (regOf w 12) (fieldOf w 5 3) (fieldOf w 0 4)
  else .mcr c (fieldOf w 21 3) (fieldOf w 16 4) (regOf w 12) (fieldOf w 5 3) (fieldOf w 0 4)

/-- The undefined-instruction space (R148), class 9: what no earlier class of R141 took. -/
def decodeUndefined (c : Cond) (w : Word) : Instr :=
  if fieldOf w 25 3 = 0b011#3 then .undefined011x1 c (fieldOf w 5 20) (fieldOf w 0 4)
  else if fieldOf w 25 3 = 0b110#3 then .undefinedLdcStc c (fieldOf w 0 25)
  else if flagOf w 4 then
    .undefinedMrcMcrNotP15 c (fieldOf w 12 12) (fieldOf w 8 4) (fieldOf w 5 3) (fieldOf w 0 4)
  else .undefinedCdp c (fieldOf w 5 19) (fieldOf w 0 4)

/-- The class of a word whose condition is not NV: the ordered patterns of R141, each mask read as the fields it
selects. -/
def decodeClass (c : Cond) (w : Word) : Instr :=
  if fieldOf w 24 4 = 0b1111#4 then .swi c (fieldOf w 0 24)
  else if fieldOf w 24 4 = 0b1110#4 ∧ fieldOf w 8 4 = 0b1111#4 ∧ flagOf w 4 then decodeCp15 c w
  else if fieldOf w 25 3 = 0b101#3 then decodeBranch c w
  else if fieldOf w 25 3 = 0b100#3 then decodeBlock c w
  else if fieldOf w 26 2 = 0b01#2 ∧ ¬ (flagOf w 25 ∧ flagOf w 4) then decodeSingle c w
  else if fieldOf w 23 5 = 0b00010#5 ∧ fieldOf w 20 2 = 0b00#2 ∧ fieldOf w 4 8 = 0b00001001#8 then decodeSwap c w
  else if fieldOf w 22 6 = 0b000000#6 ∧ fieldOf w 4 4 = 0b1001#4 then decodeMultiply c w
  else if fieldOf w 26 2 = 0b00#2 then decodeDataProcessing c w
  else decodeUndefined c w

/-- The instruction of a word. Every 32-bit word is one: NV takes its sixteenth of the space (R147), the classes of
R141 with the undefined space (R148) and the unrecognised patterns (R149) the rest. -/
def decodeWord (w : Word) : Instr :=
  match Cond.ofCode (fieldOf w 28 4) with
  | none => .nvAny (fieldOf w 0 28)
  | some c => decodeClass c w

/-! ### Bytes -/

/-- Why bytes are no instruction: fewer than the four bytes of R151. -/
inductive DecodeError where
  | truncated (length : Nat)
  deriving DecidableEq, Repr

/-- A little-endian word (R64): the first byte is bits 7:0. -/
def wordOfBytes (b0 b1 b2 b3 : Byte) : Word := b3 ++ b2 ++ b1 ++ b0

/-- The four bytes of a word, lowest address first (R64). -/
def bytesOfWord (w : Word) : List Byte := [fieldOf w 0 8, fieldOf w 8 8, fieldOf w 16 8, fieldOf w 24 8]

/-- The instruction at the front of a list of bytes, and the bytes after it (R130, R151). -/
def decode : List Byte → Except DecodeError (Instr × List Byte)
  | b0 :: b1 :: b2 :: b3 :: rest => .ok (decodeWord (wordOfBytes b0 b1 b2 b3), rest)
  | bytes => .error (.truncated bytes.length)

/-- What the decoder reads from an instruction whose bits are `w` (bit 0 the least significant of the first byte in
memory, which is the word's bit 0: R64), every bit above `nbits` being 0. -/
def decodeTableWord (nbits w : Nat) : Option Instr :=
  match decode (bytesOfWord (BitVec.ofNat 32 (w % 2 ^ nbits))) with
  | .ok (i, _) => some i
  | .error _ => none

/-! ### The encoder -/

/-- The I bit, bit 25, of a data-processing word. -/
def Operand2.iBit : Operand2 → BitVec 1
  | .imm _ _ => 1#1
  | .shiftImm _ _ _ => 0#1
  | .shiftReg _ _ _ => 0#1
  | .bits4And7 _ _ _ => 0#1

/-- Bits 11:0 of a data-processing word (R142, R143). -/
def Operand2.bits : Operand2 → BitVec 12
  | .imm rot imm8 => rot ++ imm8
  | .shiftImm rm sh amt => amt ++ sh.code ++ 0#1 ++ Reg.bits rm
  | .shiftReg rm sh rs => Reg.bits rs ++ 0#1 ++ sh.code ++ 1#1 ++ Reg.bits rm
  | .bits4And7 rm sh rs => Reg.bits rs ++ 1#1 ++ sh.code ++ 1#1 ++ Reg.bits rm

/-- Bit 25 of a single data transfer. -/
def Offset.iBit : Offset → BitVec 1
  | .imm _ => 0#1
  | .shifted _ _ _ => 1#1

/-- Bits 11:0 of a single data transfer (R145). -/
def Offset.bits : Offset → BitVec 12
  | .imm imm12 => imm12
  | .shifted rm sh amt => amt ++ sh.code ++ 0#1 ++ Reg.bits rm

/-- R132, with the field at 19:16 and the field at 15:12 given as bits. -/
def encodeDp (c : Cond) (opcode : BitVec 4) (sf : Bool) (f19 f15 : BitVec 4) (op2 : Operand2) : Word :=
  c.code ++ 0b00#2 ++ op2.iBit ++ opcode ++ BitVec.ofBool sf ++ f19 ++ f15 ++ op2.bits

/-- R134. -/
def encodeMultiply (c : Cond) (acc : BitVec 1) (sf : Bool) (rd : Reg) (rn : BitVec 4) (rs rm : Reg) : Word :=
  c.code ++ 0b000000#6 ++ acc ++ BitVec.ofBool sf ++ Reg.bits rd ++ rn ++ Reg.bits rs ++ 0b1001#4 ++ Reg.bits rm

/-- R135. -/
def encodeSwap (c : Cond) (byte : BitVec 1) (rn rd rm : Reg) : Word :=
  c.code ++ 0b00010#5 ++ byte ++ 0b00#2 ++ Reg.bits rn ++ Reg.bits rd ++ 0b00001001#8 ++ Reg.bits rm

/-- R136. -/
def encodeSingle (c : Cond) (load byte : BitVec 1) (p u w : Bool) (rn rd : Reg) (off : Offset) : Word :=
  c.code ++ 0b01#2 ++ off.iBit ++ BitVec.ofBool p ++ BitVec.ofBool u ++ byte ++ BitVec.ofBool w ++ load ++ Reg.bits rn
    ++ Reg.bits rd ++ off.bits

/-- R137. -/
def encodeBlock (c : Cond) (load : BitVec 1) (p u sb w : Bool) (rn : Reg) (list : BitVec 16) : Word :=
  c.code ++ 0b100#3 ++ BitVec.ofBool p ++ BitVec.ofBool u ++ BitVec.ofBool sb ++ BitVec.ofBool w ++ load ++ Reg.bits rn
    ++ list

/-- R140. -/
def encodeCp15 (c : Cond) (load : BitVec 1) (opc1 : BitVec 3) (crn : BitVec 4) (rd : Reg) (opc2 : BitVec 3)
    (crm : BitVec 4) : Word :=
  c.code ++ 0b1110#4 ++ opc1 ++ load ++ crn ++ Reg.bits rd ++ 0b1111#4 ++ opc2 ++ 1#1 ++ crm

/-- The word of an instruction (R132 to R140, R147 to R149). -/
def encode : Instr → Word
  | .and c sf rn rd op2 => encodeDp c 0b0000#4 sf (Reg.bits rn) (Reg.bits rd) op2
  | .eor c sf rn rd op2 => encodeDp c 0b0001#4 sf (Reg.bits rn) (Reg.bits rd) op2
  | .sub c sf rn rd op2 => encodeDp c 0b0010#4 sf (Reg.bits rn) (Reg.bits rd) op2
  | .rsb c sf rn rd op2 => encodeDp c 0b0011#4 sf (Reg.bits rn) (Reg.bits rd) op2
  | .add c sf rn rd op2 => encodeDp c 0b0100#4 sf (Reg.bits rn) (Reg.bits rd) op2
  | .adc c sf rn rd op2 => encodeDp c 0b0101#4 sf (Reg.bits rn) (Reg.bits rd) op2
  | .sbc c sf rn rd op2 => encodeDp c 0b0110#4 sf (Reg.bits rn) (Reg.bits rd) op2
  | .rsc c sf rn rd op2 => encodeDp c 0b0111#4 sf (Reg.bits rn) (Reg.bits rd) op2
  | .tst c rn sbz op2 => encodeDp c 0b1000#4 true (Reg.bits rn) sbz op2
  | .teq c rn sbz op2 => encodeDp c 0b1001#4 true (Reg.bits rn) sbz op2
  | .cmp c rn sbz op2 => encodeDp c 0b1010#4 true (Reg.bits rn) sbz op2
  | .cmn c rn sbz op2 => encodeDp c 0b1011#4 true (Reg.bits rn) sbz op2
  | .orr c sf rn rd op2 => encodeDp c 0b1100#4 sf (Reg.bits rn) (Reg.bits rd) op2
  | .mov c sf sbz rd op2 => encodeDp c 0b1101#4 sf sbz (Reg.bits rd) op2
  | .bic c sf rn rd op2 => encodeDp c 0b1110#4 sf (Reg.bits rn) (Reg.bits rd) op2
  | .mvn c sf sbz rd op2 => encodeDp c 0b1111#4 sf sbz (Reg.bits rd) op2
  | .mrsCpsr c rd => c.code ++ 0b00010#5 ++ 0#1 ++ 0b00#2 ++ 0b1111#4 ++ Reg.bits rd ++ 0#12
  | .mrsSpsr c rd => c.code ++ 0b00010#5 ++ 1#1 ++ 0b00#2 ++ 0b1111#4 ++ Reg.bits rd ++ 0#12
  | .msrCpsr c rm => c.code ++ 0b00010#5 ++ 0#1 ++ 0b10#2 ++ 0b1001#4 ++ 0b1111#4 ++ 0#8 ++ Reg.bits rm
  | .msrCpsrFlgReg c rm => c.code ++ 0b00010#5 ++ 0#1 ++ 0b10#2 ++ 0b1000#4 ++ 0b1111#4 ++ 0#8 ++ Reg.bits rm
  | .msrCpsrFlgImm c rot imm8 => c.code ++ 0b00110#5 ++ 0#1 ++ 0b10#2 ++ 0b1000#4 ++ 0b1111#4 ++ rot ++ imm8
  | .msrSpsr c rm => c.code ++ 0b00010#5 ++ 1#1 ++ 0b10#2 ++ 0b1001#4 ++ 0b1111#4 ++ 0#8 ++ Reg.bits rm
  | .msrSpsrFlgReg c rm => c.code ++ 0b00010#5 ++ 1#1 ++ 0b10#2 ++ 0b1000#4 ++ 0b1111#4 ++ 0#8 ++ Reg.bits rm
  | .msrSpsrFlgImm c rot imm8 => c.code ++ 0b00110#5 ++ 1#1 ++ 0b10#2 ++ 0b1000#4 ++ 0b1111#4 ++ rot ++ imm8
  | .mul c sf rd sbz rs rm => encodeMultiply c 0#1 sf rd sbz rs rm
  | .mla c sf rd rn rs rm => encodeMultiply c 1#1 sf rd (Reg.bits rn) rs rm
  | .swp c rn rd rm => encodeSwap c 0#1 rn rd rm
  | .swpb c rn rd rm => encodeSwap c 1#1 rn rd rm
  | .ldr c p u w rn rd off => encodeSingle c 1#1 0#1 p u w rn rd off
  | .ldrb c p u w rn rd off => encodeSingle c 1#1 1#1 p u w rn rd off
  | .str c p u w rn rd off => encodeSingle c 0#1 0#1 p u w rn rd off
  | .strb c p u w rn rd off => encodeSingle c 0#1 1#1 p u w rn rd off
  | .ldm c p u sb w rn list => encodeBlock c 1#1 p u sb w rn list
  | .stm c p u sb w rn list => encodeBlock c 0#1 p u sb w rn list
  | .b c off24 => c.code ++ 0b101#3 ++ 0#1 ++ off24
  | .bl c off24 => c.code ++ 0b101#3 ++ 1#1 ++ off24
  | .swi c comment => c.code ++ 0b1111#4 ++ comment
  | .mrc c opc1 crn rd opc2 crm => encodeCp15 c 1#1 opc1 crn rd opc2 crm
  | .mcr c opc1 crn rd opc2 crm => encodeCp15 c 0#1 opc1 crn rd opc2 crm
  | .undefined011x1 c hi lo => c.code ++ 0b011#3 ++ hi ++ 1#1 ++ lo
  | .undefinedLdcStc c low25 => c.code ++ 0b110#3 ++ low25
  | .undefinedCdp c hi lo => c.code ++ 0b1110#4 ++ hi ++ 0#1 ++ lo
  | .undefinedMrcMcrNotP15 c hi cpNum mid lo => c.code ++ 0b1110#4 ++ hi ++ cpNum ++ mid ++ 1#1 ++ lo
  | .uppTrap c imm opLow f19 f15 f11 =>
      c.code ++ 0b00#2 ++ BitVec.ofBool imm ++ 0b10#2 ++ opLow ++ 0#1 ++ f19 ++ f15 ++ f11
  | .uppBits4And7 c opLow f19 f15 f8 f5 f0 =>
      c.code ++ 0b00#2 ++ 0#1 ++ 0b10#2 ++ opLow ++ 0#1 ++ f19 ++ f15 ++ f8 ++ 1#1 ++ f5 ++ 1#1 ++ f0
  | .nvAny low28 => 0b1111#4 ++ low28

/-! ### The rows of the opcode table -/

/-- The mask and the value of an instruction's row of the opcode table: the bits of its word that the row fixes (the
condition field apart). -/
def Instr.tableRow : Instr → Word × Word
  | .and _ _ _ _ _ => (0x0DE00000#32, 0x00000000#32)
  | .eor _ _ _ _ _ => (0x0DE00000#32, 0x00200000#32)
  | .sub _ _ _ _ _ => (0x0DE00000#32, 0x00400000#32)
  | .rsb _ _ _ _ _ => (0x0DE00000#32, 0x00600000#32)
  | .add _ _ _ _ _ => (0x0DE00000#32, 0x00800000#32)
  | .adc _ _ _ _ _ => (0x0DE00000#32, 0x00A00000#32)
  | .sbc _ _ _ _ _ => (0x0DE00000#32, 0x00C00000#32)
  | .rsc _ _ _ _ _ => (0x0DE00000#32, 0x00E00000#32)
  | .tst _ _ _ _ => (0x0DF00000#32, 0x01100000#32)
  | .teq _ _ _ _ => (0x0DF00000#32, 0x01300000#32)
  | .cmp _ _ _ _ => (0x0DF00000#32, 0x01500000#32)
  | .cmn _ _ _ _ => (0x0DF00000#32, 0x01700000#32)
  | .orr _ _ _ _ _ => (0x0DE00000#32, 0x01800000#32)
  | .mov _ _ _ _ _ => (0x0DE00000#32, 0x01A00000#32)
  | .bic _ _ _ _ _ => (0x0DE00000#32, 0x01C00000#32)
  | .mvn _ _ _ _ _ => (0x0DE00000#32, 0x01E00000#32)
  | .mul _ _ _ _ _ _ => (0x0FE000F0#32, 0x00000090#32)
  | .mla _ _ _ _ _ _ => (0x0FE000F0#32, 0x00200090#32)
  | .swp _ _ _ _ => (0x0FF00FF0#32, 0x01000090#32)
  | .swpb _ _ _ _ => (0x0FF00FF0#32, 0x01400090#32)
  | .ldr _ _ _ _ _ _ _ => (0x0C500000#32, 0x04100000#32)
  | .ldrb _ _ _ _ _ _ _ => (0x0C500000#32, 0x04500000#32)
  | .str _ _ _ _ _ _ _ => (0x0C500000#32, 0x04000000#32)
  | .strb _ _ _ _ _ _ _ => (0x0C500000#32, 0x04400000#32)
  | .ldm _ _ _ _ _ _ _ => (0x0E100000#32, 0x08100000#32)
  | .stm _ _ _ _ _ _ _ => (0x0E100000#32, 0x08000000#32)
  | .b _ _ => (0x0F000000#32, 0x0A000000#32)
  | .bl _ _ => (0x0F000000#32, 0x0B000000#32)
  | .swi _ _ => (0x0F000000#32, 0x0F000000#32)
  | .mrsCpsr _ _ => (0x0FFF0FFF#32, 0x010F0000#32)
  | .mrsSpsr _ _ => (0x0FFF0FFF#32, 0x014F0000#32)
  | .msrCpsr _ _ => (0x0FFFFFF0#32, 0x0129F000#32)
  | .msrCpsrFlgReg _ _ => (0x0FFFFFF0#32, 0x0128F000#32)
  | .msrCpsrFlgImm _ _ _ => (0x0FFFF000#32, 0x0328F000#32)
  | .msrSpsr _ _ => (0x0FFFFFF0#32, 0x0169F000#32)
  | .msrSpsrFlgReg _ _ => (0x0FFFFFF0#32, 0x0168F000#32)
  | .msrSpsrFlgImm _ _ _ => (0x0FFFF000#32, 0x0368F000#32)
  | .mrc _ _ _ _ _ _ => (0x0F100F10#32, 0x0E100F10#32)
  | .mcr _ _ _ _ _ _ => (0x0F100F10#32, 0x0E000F10#32)
  | .undefined011x1 _ _ _ => (0x0E000010#32, 0x06000010#32)
  | .undefinedLdcStc _ _ => (0x0E000000#32, 0x0C000000#32)
  | .undefinedCdp _ _ _ => (0x0F000010#32, 0x0E000000#32)
  | .undefinedMrcMcrNotP15 _ _ _ _ _ => (0x0F000010#32, 0x0E000010#32)
  | .uppTrap _ _ _ _ _ _ => (0x0D900000#32, 0x01000000#32)
  | .uppBits4And7 _ _ _ _ _ _ _ => (0x0D900000#32, 0x01000000#32)
  | .nvAny _ => (0xF0000000#32, 0xF0000000#32)

end Sys2Proof
end

