-- ==== Sys2Proof/Config.lean ====
section
/-! DEFINITION. What an implementation fixes (the named parameters of 00_scope.md R9, 93 U23) and the values the spec
leaves free (93 U6, U14, U15), each an opaque constant that no proof can evaluate. -/

namespace Sys2Proof

/-- `UPP_VECTOR` (R9, R224): the entry an unrecognised privileged pattern takes. -/
inductive Config.UppVector where
  /-- 0x08, the software-interrupt entry (the default, D12) -/
  | softwareInterrupt
  /-- 0x04, the undefined-instruction entry -/
  | undefinedInstruction
  deriving DecidableEq, Repr

/-- `REG_SHIFT_ZERO` (R9, R190): the rule for a register-specified shift amount whose low byte is 0. -/
inductive Config.RegShiftZero where
  | literal
  | datasheet
  deriving DecidableEq, Repr

/-- `CACHE_TAG_ADDRESS` (R9, R111): the address the cache derives set and tag from. -/
inductive Config.CacheTag where
  | virtual
  | physical
  deriving DecidableEq, Repr

/-- The named parameters that the model takes as arguments (R9); State holds one value of this type, which no step
changes, so that a statement about every state is a statement about every parameter value. `UNALIGNED_WORD` has one
value with a meaning (`rotate`) and is no field. -/
structure Config.Params where
  /-- `T_VARIANT`: whether CP15 has "T-extension semantics" -/
  tVariant : Bool
  uppVector : Config.UppVector
  regShiftZero : Config.RegShiftZero
  cacheTag : Config.CacheTag
  deriving DecidableEq, Repr

/-- The values R9 fixes for the ARM710a. -/
def Config.arm710a : Config.Params where
  tVariant := false
  uppVector := .softwareInterrupt
  regShiftZero := .literal
  cacheTag := .virtual

/-- A free 32-bit value, one for each draw (93 U6; a read of a device of the platform, R61). No body: no proof sees a
value of it. -/
opaque Config.freeWord : Nat → Word

/-- `RandomSlot()` (R114, U14): the cache slot a refill takes, one free draw in 0..127 for each refill. -/
opaque Config.randomSlot : Nat → Fin 128

/-- `PROCESSOR_ID` before any `setProcessorID` (R10, U15): open, no default. -/
opaque Config.processorId : Word

end Sys2Proof
end

