-- ==== Sys2Proof/Machine/State.lean ====
section
/-! DEFINITION. The state of the core as plain data (10_state.md R20 to R47), the platform behind its bus (R60, R61),
the reasons a step can stop, and the state after reset (R46, R360). -/

namespace Sys2Proof.Machine

/-! ### Modes and banks -/

/-- The seven processor modes (R29). -/
inductive Mode where
  | user | fiq | irq | supervisor | abort | undefined | system
  deriving DecidableEq, Repr

/-- The five banks with a saved-status word (R22, R31); each is the bank of one exception mode. -/
inductive ExcBank where
  | fiq | irq | svc | abt | und
  deriving DecidableEq, Repr

/-- The six register banks (R22): the main bank of User and System modes, and the five exception banks. -/
inductive Bank where
  | main
  | exc (b : ExcBank)
  deriving DecidableEq, Repr

/-- One word for each of the six banks: `bankR13` and `bankR14` of R22. -/
structure BankWords where
  main : Word
  fiq : Word
  irq : Word
  svc : Word
  abt : Word
  und : Word
  deriving DecidableEq, Repr

/-- The five saved-status words of R31. -/
structure SpsrWords where
  fiq : Word
  irq : Word
  svc : Word
  abt : Word
  und : Word
  deriving DecidableEq, Repr

/-- One slot of the FIQ shadow array of R23: a stored copy of R8 to R12. -/
structure Shadow where
  r8 : Word
  r9 : Word
  r10 : Word
  r11 : Word
  r12 : Word
  deriving DecidableEq, Repr

/-! ### Faults of the architecture -/

/-- The fault types of R100. `nonMMU` lies outside the nibble (R73). -/
inductive FaultType where
  | alignment
  | sectionLinefetchError
  | sectionTranslationFault
  | pageLinefetchError
  | pageTranslationFault
  | sectionOtherBusError
  | sectionDomainFault
  | pageOtherBusError
  | pageDomainFault
  | lv1TranslationError
  | sectionPermissionFault
  | lv2TranslationError
  | pagePermissionFault
  | nonMMU
  deriving DecidableEq, Repr

/-- A FaultCode (R43): the type, the domain nibble and the faulting virtual address. -/
structure FaultCode where
  type : FaultType
  domain : BitVec 4
  va : Word
  deriving DecidableEq, Repr

/-! ### Translation, cache and pipeline state -/

/-- One TLB entry (R38); a zero `addrMask` marks an empty slot. -/
structure TlbEntry where
  addrMask : Word
  addr : Word
  level1Descriptor : Word
  level2Descriptor : Word
  deriving DecidableEq, Repr

/-- The empty TLB slot (R90). -/
def TlbEntry.empty : TlbEntry := ⟨0, 0, 0, 0⟩

/-- One cache line (R39): 26-bit tag, enabled bit, 16 data bytes. -/
structure CacheLine where
  tag : BitVec 26
  enabled : Bool
  data : Vector Byte 16
  deriving DecidableEq, Repr

/-- A disabled line; tag and data as log entry 5 names them. -/
def CacheLine.empty : CacheLine := ⟨0, false, Vector.replicate 16 0⟩

/-- The 4 sets of 128 lines of R39. -/
abbrev Cache := Vector (Vector CacheLine 128) 4

/-- One slot of the prefetch queue (R40): the word fetched, or the fault of a failed fetch, with which no word is ever
used (R162, U16; log entry 14). -/
inductive Slot where
  | word (w : Word)
  | fault (f : FaultCode)
  deriving DecidableEq, Repr

/-- The prefetch queue (R40): `pfCount` slots, 0 to 2, the oldest first. -/
inductive Prefetch where
  | empty
  | one (oldest : Slot)
  | two (oldest newest : Slot)
  deriving DecidableEq, Repr

/-- The coprocessor-15 registers (R32 to R37). -/
structure Cp15 where
  control : Word
  ttb : Word
  dac : Word
  fsr : Word
  far : Word
  deriving DecidableEq, Repr

/-! ### The platform -/

/-- Physical memory: (address, byte) pairs, addresses rising, no byte equal to what an unlisted address reads as. -/
abbrev Memory := List Host.Cell

/-- What the platform answers in a region of the physical address space (R60, R61; log entry 1). Outside every listed
region it is RAM. -/
inductive BusKind where
  /-- memory that accepts every access -/
  | ram
  /-- memory that answers reads and refuses writes -/
  | rom
  /-- the bus error of R61: a read gives no value, a write gives `false` -/
  | error
  /-- a device: a read gives a value the spec does not fix, a write is accepted and changes no memory -/
  | device
  /-- the standby register of R345: as a device, and a write sets `halted` -/
  | standby
  deriving DecidableEq, Repr

/-- A region of the physical address space, both ends included. -/
structure BusRegion where
  first : Word
  last : Word
  kind : BusKind
  deriving DecidableEq, Repr

/-- One call of the physical bus (R60, R63). -/
inductive BusCall where
  | read (pa : Word) (n : Size)
  | write (pa : Word) (n : Size) (v : Word)
  deriving DecidableEq, Repr

/-- What the environment does between two ticks (R7, R172, R369; log entry 11); `tick` is one call of the step of
R160. -/
inductive EnvAction where
  | tick
  | reset
  | requestFIQ
  | requestIRQ
  | setProcessorID (v : Word)
  | halt
  | debugRead (va : Word) (n : Size)
  | busMaster (pa : Word) (b : Byte)
  deriving DecidableEq, Repr

/-! ### The state -/

/-- The state of the machine. The fields from `params` on are the model's own (10_state.md R45; log entries 1, 7, 9,
10, 11, 15). -/
structure State where
  /-- the 16 live registers; number 15 is the program counter (R20, R27) -/
  regs : Vector Word 16
  /-- the bank whose R13 and R14 are live (R22) -/
  curBank : Bank
  /-- the shadow copies of R13 and of R14 (R22) -/
  bankR13 : BankWords
  bankR14 : BankWords
  /-- `fiqShadow[0]`, the shared R8 to R12, and `fiqShadow[1]`, the FIQ-private ones (R23) -/
  fiqShadow0 : Shadow
  fiqShadow1 : Shadow
  /-- the status word (R28) -/
  cpsr : Word
  /-- the saved-status words (R31) -/
  spsr : SpsrWords
  /-- coprocessor 15 (R32) -/
  cp15 : Cp15
  /-- the TLB and its replacement counter (R38) -/
  tlb : Vector TlbEntry 64
  tlbNext : Fin 64
  /-- the cache (R39) -/
  cache : Cache
  /-- the prefetch queue (R40) -/
  pf : Prefetch
  /-- the data-fault latch (R41) -/
  faultPending : Option FaultCode
  /-- the halted flag (R42) -/
  halted : Bool
  /-- the named parameters of R9; no step changes them -/
  params : Config.Params
  /-- `PROCESSOR_ID` (R10) -/
  processorId : Word
  /-- the platform's memory and its map (R60, R61) -/
  mem : Memory
  bus : List BusRegion
  /-- the bus calls made so far, the newest first (R63) -/
  busTrace : List BusCall
  /-- what the environment will do, the first action first; once it is empty every step is a tick (R6, R172) -/
  schedule : List EnvAction
  /-- how many free values have been drawn (R114, U6) -/
  draws : Nat
  deriving DecidableEq, Repr

/-- Why the machine stops with a fault. Every fault of the architecture is an exception and no stop; this is the one
state the pseudocode gives no meaning to. -/
inductive Fault where
  /-- Raised by the CPSR restore (R215) and by MRS and MSR of the SPSR (R220, R223) when the mode has an SPSR and the
  live bank is the main bank, which has none (R31). No state that keeps invariant (a) of R47 reaches it. Safe. -/
  | noSpsrInBank
  deriving DecidableEq, Repr

/-- Why the model gives an instruction no result. But for `notModelled` each is an entry of 93 part 1 whose treatment
is "refuse" (R18). All are safe: nothing can be proved past them. -/
inductive Refusal where
  /-- An arm of `exec` that has no meaning yet. Safe. -/
  | notModelled (mnemonic : String)
  /-- U1: a data-processing instruction, LDR or LDM writes the PC with a value whose bits 1:0 are not 00. Safe. -/
  | misalignedPc
  /-- U2: MSR or a restore from the SPSR writes a mode number that is not one of the seven of R29. Safe. -/
  | illegalMode
  /-- U3: an access through a Client domain with AP = 00 while control bits S and R are both 1. Safe. -/
  | apZeroWithSAndR
  /-- U4: a word of the data-processing class, the PSR space included, with bit 25 clear and bits 4 and 7 both set
  (R150 a). Safe. -/
  | bits4And7
  /-- U5: R15 as Rd of MRS or as Rm of MSR. Safe. -/
  | psrTransferOfPc
  /-- U7: R15 as an operand of MUL or MLA (R235). Safe. -/
  | multiplyUsesPc
  /-- U8: a single transfer with write-back to R15 or with R15 as the offset register (R242). Safe. -/
  | transferUsesPc
  /-- U8: LDRB with Rd = 15 (R245). Safe. -/
  | byteLoadToPc
  /-- U8: R15 in SWP or SWPB (R255). Safe. -/
  | swapUsesPc
  /-- U9: LDM or STM with an empty register list (R261). Safe. -/
  | emptyRegisterList
  /-- U9: LDM or STM with Rn = 15 (R261). Safe. -/
  | blockBaseIsPc
  /-- U10: a user-bank transfer with write-back (R263, R264). Safe. -/
  | userBankWriteBack
  /-- U11: MRC or MCR p15 with Rd = 15 (R293, R306). Safe. -/
  | cp15TransferOfPc
  deriving DecidableEq, Repr

/-- The machine right after reset (R46, R360). What R46 lists as unspecified has the value that log entries 3, 4, 5 and
9 name. -/
def State.reset : State where
  regs := Vector.replicate 16 0
  curBank := .exc .svc
  bankR13 := ⟨0, 0, 0, 0, 0, 0⟩
  bankR14 := ⟨0, 0, 0, 0, 0, 0⟩
  fiqShadow0 := ⟨0, 0, 0, 0, 0⟩
  fiqShadow1 := ⟨0, 0, 0, 0, 0⟩
  cpsr := 0x00000013#32
  spsr := ⟨0, 0, 0x00000013#32, 0, 0⟩
  cp15 := ⟨0, 0, 0, 0, 0⟩
  tlb := Vector.replicate 64 TlbEntry.empty
  tlbNext := 0
  cache := Vector.replicate 4 (Vector.replicate 128 CacheLine.empty)
  pf := .empty
  faultPending := none
  halted := false
  params := Config.arm710a
  processorId := Config.processorId
  mem := []
  bus := []
  busTrace := []
  schedule := []
  draws := 0

end Sys2Proof.Machine
end

