-- ==== Sys2Proof/Machine/Memory.lean ====
section
/-! DEFINITION. Physical memory as a canonical list of cells: what an unlisted address reads as, the read and the write
of one byte, the little-endian word (20_memory.md R64), and the canonical form. -/

namespace Sys2Proof.Machine

/-- What an address that no entry lists reads as (log entry 2, DESIGN CHOICE, unsafe). -/
def Memory.unlisted : Byte := 0x00#8

/-- The byte at an address. -/
def Memory.readByte : Memory → Nat → Byte
  | [], _ => Memory.unlisted
  | (x, v) :: rest, a => if x = a then v else Memory.readByte rest a

/-- A cell list whose first address is above `a`, with `(a, b)` put in front unless `b` is what `a` reads as anyway. -/
def Memory.place (a : Nat) (b : Byte) (m : Memory) : Memory := if b = Memory.unlisted then m else (a, b) :: m

/-- Store one byte, keeping the canonical form. -/
def Memory.writeByte : Memory → Nat → Byte → Memory
  | [], a, b => Memory.place a b []
  | (x, v) :: rest, a, b =>
    if a < x then Memory.place a b ((x, v) :: rest)
    else if a = x then Memory.place a b rest
    else (x, v) :: Memory.writeByte rest a b

/-- Every address of the list lies in `lo .. 2^32 - 1`, the addresses rise, and no byte is the unlisted one. -/
def Memory.wfFrom : Nat → Memory → Bool
  | _, [] => true
  | lo, (x, v) :: rest => decide (lo ≤ x) && decide (x < 2 ^ 32) && (v != Memory.unlisted) && Memory.wfFrom (x + 1) rest

/-- The canonical form. -/
def Memory.wf (m : Memory) : Bool := Memory.wfFrom 0 m

/-- The word at an address, little-endian (R64). -/
def Memory.readWord (m : Memory) (a : Nat) : Word :=
  m.readByte (a + 3) ++ m.readByte (a + 2) ++ m.readByte (a + 1) ++ m.readByte a

/-- Store a word, little-endian (R64). -/
def Memory.writeWord (m : Memory) (a : Nat) (v : Word) : Memory :=
  (((m.writeByte a (v.extractLsb' 0 8)).writeByte (a + 1) (v.extractLsb' 8 8)).writeByte (a + 2)
    (v.extractLsb' 16 8)).writeByte (a + 3) (v.extractLsb' 24 8)

/-- What the memory holds at an address, a byte zero-extended (R14, R65). -/
def Memory.readSize (m : Memory) (a : Nat) : Size → Word
  | .byte => (m.readByte a).setWidth 32
  | .word => m.readWord a

/-- Store the low byte or the whole word (R65). -/
def Memory.writeSize (m : Memory) (a : Nat) : Size → Word → Memory
  | .byte, v => m.writeByte a (v.extractLsb' 0 8)
  | .word, v => m.writeWord a v

/-- How many bytes an access moves. -/
def sizeBytes : Size → Nat
  | .byte => 1
  | .word => 4

end Sys2Proof.Machine
end

