-- ==== Sys2Proof/Machine/Update.lean ====
section
/-! DEFINITION. The sequencing of outcomes, the accessors of State and its updates, one named update for each kind of
state. Every register read and write of the model goes through `State.reg` and `State.setReg`. -/

namespace Sys2Proof.Machine

/-- The outcome of a step or of a part of one that yields an `α`. -/
abbrev Outcome (α : Type) := Host.Outcome α Fault Refusal

/-- Go on with the value of an outcome; a fault or a refusal ends the step. -/
def andThen {α β : Type} (o : Outcome α) (k : α → Outcome β) : Outcome β :=
  match o with
  | .next a => k a
  | .fault r => .fault r
  | .refused r => .refused r

/-! ### General registers -/

/-- The number of the program counter (R21). -/
abbrev pcReg : Reg := 15

/-- `x[i]`, the raw read of a live register (R12). -/
def State.reg (s : State) (r : Reg) : Word := s.regs.get r

/-- `R[15]` (R27). -/
def State.pc (s : State) : Word := s.reg pcReg

/-- `rdpc8(i)` (R12): a live register, the program counter as `A + 8`. -/
def State.rdpc8 (s : State) (r : Reg) : Word := if r = pcReg then s.pc - 4 else s.reg r

/-- `rdpc12(i)` (R12): a live register, the program counter as `A + 12`, its raw value. -/
def State.rdpc12 (s : State) (r : Reg) : Word := s.reg r

/-- Write a live register and nothing else. -/
def State.setReg (s : State) (r : Reg) (v : Word) : State := { s with regs := s.regs.set r v }

/-! ### Banked registers -/

/-- The stored word of a bank. -/
def BankWords.get (w : BankWords) : Bank → Word
  | .main => w.main
  | .exc .fiq => w.fiq
  | .exc .irq => w.irq
  | .exc .svc => w.svc
  | .exc .abt => w.abt
  | .exc .und => w.und

/-- Store a word for a bank. -/
def BankWords.put (w : BankWords) (v : Word) : Bank → BankWords
  | .main => { w with main := v }
  | .exc .fiq => { w with fiq := v }
  | .exc .irq => { w with irq := v }
  | .exc .svc => { w with svc := v }
  | .exc .abt => { w with abt := v }
  | .exc .und => { w with und := v }

/-- A saved-status word. -/
def SpsrWords.get (w : SpsrWords) : ExcBank → Word
  | .fiq => w.fiq
  | .irq => w.irq
  | .svc => w.svc
  | .abt => w.abt
  | .und => w.und

/-- Store a saved-status word. -/
def SpsrWords.put (w : SpsrWords) (v : Word) : ExcBank → SpsrWords
  | .fiq => { w with fiq := v }
  | .irq => { w with irq := v }
  | .svc => { w with svc := v }
  | .abt => { w with abt := v }
  | .und => { w with und := v }

/-- `curBank <- b` and nothing else. -/
def State.setCurBank (s : State) (b : Bank) : State := { s with curBank := b }

def State.setBankR13 (s : State) (w : BankWords) : State := { s with bankR13 := w }

def State.setBankR14 (s : State) (w : BankWords) : State := { s with bankR14 := w }

def State.setFiqShadow0 (s : State) (w : Shadow) : State := { s with fiqShadow0 := w }

def State.setFiqShadow1 (s : State) (w : Shadow) : State := { s with fiqShadow1 := w }

/-- `SPSR[b] <- v` (R31). -/
def State.setSpsr (s : State) (b : ExcBank) (v : Word) : State := { s with spsr := s.spsr.put v b }

/-! ### The other updates -/

/-- Replace the whole status word, the bank left as it is. -/
def State.setCpsr (s : State) (v : Word) : State := { s with cpsr := v }

def State.setCp15 (s : State) (c : Cp15) : State := { s with cp15 := c }

def State.setTlb (s : State) (t : Vector TlbEntry 64) : State := { s with tlb := t }

def State.setTlbNext (s : State) (n : Fin 64) : State := { s with tlbNext := n }

def State.setCache (s : State) (c : Cache) : State := { s with cache := c }

def State.setPf (s : State) (q : Prefetch) : State := { s with pf := q }

def State.setFaultPending (s : State) (f : Option FaultCode) : State := { s with faultPending := f }

def State.setHalted (s : State) (b : Bool) : State := { s with halted := b }

def State.setProcessorId (s : State) (v : Word) : State := { s with processorId := v }

def State.setMem (s : State) (m : Memory) : State := { s with mem := m }

def State.setBusTrace (s : State) (t : List BusCall) : State := { s with busTrace := t }

def State.setSchedule (s : State) (l : List EnvAction) : State := { s with schedule := l }

def State.setDraws (s : State) (n : Nat) : State := { s with draws := n }

/-- Draw a free 32-bit value (U6, R61). -/
def drawWord (s : State) : Word × State := (Config.freeWord s.draws, s.setDraws (s.draws + 1))

/-- `RandomSlot()` (R114). -/
def drawSlot (s : State) : Fin 128 × State := (Config.randomSlot s.draws, s.setDraws (s.draws + 1))

/-! ### Modes and privilege -/

/-- The number of a mode (R29). -/
def Mode.bits : Mode → BitVec 5
  | .user => 0b10000#5
  | .fiq => 0b10001#5
  | .irq => 0b10010#5
  | .supervisor => 0b10011#5
  | .abort => 0b10111#5
  | .undefined => 0b11011#5
  | .system => 0b11111#5

/-- The mode of a number; `none` for a number that is no mode (R29, U2). -/
def Mode.ofBits (m : BitVec 5) : Option Mode :=
  if m = 0b10000#5 then some .user
  else if m = 0b10001#5 then some .fiq
  else if m = 0b10010#5 then some .irq
  else if m = 0b10011#5 then some .supervisor
  else if m = 0b10111#5 then some .abort
  else if m = 0b11011#5 then some .undefined
  else if m = 0b11111#5 then some .system
  else none

/-- `bankOf` (R24). -/
def Mode.bank : Mode → Bank
  | .user => .main
  | .system => .main
  | .fiq => .exc .fiq
  | .irq => .exc .irq
  | .supervisor => .exc .svc
  | .abort => .exc .abt
  | .undefined => .exc .und

/-- The mode whose bank an exception bank is (R24). -/
def ExcBank.mode : ExcBank → Mode
  | .fiq => .fiq
  | .irq => .irq
  | .svc => .supervisor
  | .abt => .abort
  | .und => .undefined

/-- `CPSR.M` (R28). -/
def State.modeBits (s : State) : BitVec 5 := s.cpsr.extractLsb' 0 5

/-- The current mode, if `CPSR.M` is one. -/
def State.mode (s : State) : Option Mode := Mode.ofBits s.modeBits

/-- `priv`: `CPSR.M` is not User (R98, R340). -/
def State.priv (s : State) : Bool := s.modeBits != Mode.bits .user

/-- `hasSPSR(CPSR.M)` (R31). -/
def State.hasSpsr (s : State) : Bool :=
  s.modeBits == Mode.bits .fiq || s.modeBits == Mode.bits .irq || s.modeBits == Mode.bits .supervisor
    || s.modeBits == Mode.bits .abort || s.modeBits == Mode.bits .undefined

/-- A status word with its mode field replaced (R28). -/
def withMode (cpsr : Word) (m : Mode) : Word := cpsr.extractLsb' 5 27 ++ m.bits

end Sys2Proof.Machine
end

