-- ==== Sys2Proof/Machine/Bus.lean ====
section
/-! DEFINITION. The physical bus (20_memory.md R60 to R63) and the platform the model puts behind it (log entry 1): each
call is recorded in the bus trace, a region may refuse reads or writes, and a device answers values the spec leaves
free. -/

namespace Sys2Proof.Machine

/-- What answers at a physical address: the first region that holds it, else RAM. -/
def busKindAt : List BusRegion → Word → BusKind
  | [], _ => .ram
  | r :: rest, pa => if r.first ≤ pa ∧ pa ≤ r.last then r.kind else busKindAt rest pa

/-- Record a bus call. -/
def State.logBus (s : State) (c : BusCall) : State := s.setBusTrace (c :: s.busTrace)

/-- A value as wide as the access: a byte zero-extended (R60, R65). -/
def truncateTo : Size → Word → Word
  | .byte, v => (v.extractLsb' 0 8).setWidth 32
  | .word, v => v

/-- `BusRead(pa, n)` (R60): a value, or `none`, the bus error of R61. -/
def busRead (pa : Word) (n : Size) (s : State) : Option Word × State :=
  let s1 := s.logBus (.read pa n)
  match busKindAt s.bus pa with
  | .ram => (some (s.mem.readSize pa.toNat n), s1)
  | .rom => (some (s.mem.readSize pa.toNat n), s1)
  | .error => (none, s1)
  | .device => (some (truncateTo n (drawWord s1).1), (drawWord s1).2)
  | .standby => (some (truncateTo n (drawWord s1).1), (drawWord s1).2)

/-- `BusWrite(pa, n, v)` (R60): whether the bus accepts the write. A write to the standby register sets `halted`
(R345). -/
def busWrite (pa : Word) (n : Size) (v : Word) (s : State) : Bool × State :=
  let s1 := s.logBus (.write pa n (truncateTo n v))
  match busKindAt s.bus pa with
  | .ram => (true, s1.setMem (s.mem.writeSize pa.toNat n v))
  | .rom => (false, s1)
  | .error => (false, s1)
  | .device => (true, s1)
  | .standby => (true, s1.setHalted true)

end Sys2Proof.Machine
end

