-- ==== Sys2Proof/Machine/Mmu.lean ====
section
/-! DEFINITION. The TLB, the table walk, the physical address and the access permission (20_memory.md R80 to R101). -/

namespace Sys2Proof.Machine

/-! ### Entries -/

/-- Section or page (R88, R101): `level1Descriptor[1:0] = 0b10` is a section. -/
def TlbEntry.isSection (e : TlbEntry) : Bool := e.level1Descriptor.extractLsb' 0 2 == 0b10#2

/-- A large page: `level2Descriptor[1:0] = 0b01` (R87, R88). -/
def TlbEntry.isLarge (e : TlbEntry) : Bool := e.level2Descriptor.extractLsb' 0 2 == 0b01#2

/-- `dom(e)` (R88). -/
def TlbEntry.domain (e : TlbEntry) : BitVec 4 := e.level1Descriptor.extractLsb' 5 4

/-- `Cacheable(e)` (R99). -/
def TlbEntry.cacheable (e : TlbEntry) : Bool :=
  if e.isSection then e.level1Descriptor.getLsbD 3 else e.level2Descriptor.getLsbD 3

/-- `PhysAddr(e, va)` (R91). -/
def TlbEntry.physAddr (e : TlbEntry) (va : Word) : Word :=
  if e.isSection then (e.level1Descriptor &&& 0xFFF00000#32) ||| (va &&& 0x000FFFFF#32)
  else if e.isLarge then (e.level2Descriptor &&& 0xFFFF0000#32) ||| (va &&& 0x0000FFFF#32)
  else (e.level2Descriptor &&& 0xFFFFF000#32) ||| (va &&& 0x00000FFF#32)

/-- Whether an entry answers for a virtual address (R81): it is not empty and its address matches. -/
def TlbEntry.hits (va : Word) (e : TlbEntry) : Bool := e.addrMask != 0#32 && e.addr == (va &&& e.addrMask)

/-! ### Lookup, walk, install -/

/-- The first entry that hits, in increasing slot order (R81). -/
def tlbLookup (t : Vector TlbEntry 64) (va : Word) : Option TlbEntry := t.toList.find? (TlbEntry.hits va)

/-- The entry a walk makes (R88). -/
def newEntry (mask va l1 l2 : Word) : TlbEntry := ⟨mask, va &&& mask, l1, l2⟩

/-- The level-1 descriptor address (R83). -/
def level1Address (ttb va : Word) : Word := (ttb &&& 0xFFFFC000#32) ||| ((va >>> 20) <<< 2)

/-- The level-2 descriptor address (R86). -/
def level2Address (l1 va : Word) : Word := (l1 &&& 0xFFFFFC00#32) ||| (((va >>> 12) &&& 0xFF#32) <<< 2)

/-- The level-2 step of a walk (R86, R87). -/
def walkLevel2 (l1 va : Word) (s : State) : Except FaultCode TlbEntry × State :=
  match busRead (level2Address l1 va) .word s with
  | (none, s1) => (.error ⟨.lv2TranslationError, l1.extractLsb' 5 4, va⟩, s1)
  | (some l2, s1) =>
    if l2.extractLsb' 0 2 = 0b01#2 then (.ok (newEntry 0xFFFF0000#32 va l1 l2), s1)
    else if l2.extractLsb' 0 2 = 0b10#2 then (.ok (newEntry 0xFFFFF000#32 va l1 l2), s1)
    else (.error ⟨.pageTranslationFault, l1.extractLsb' 5 4, va⟩, s1)

/-- The table walk (R82 to R87): the entry of a virtual address, or the fault; nothing is installed. -/
def tableWalk (va : Word) (s : State) : Except FaultCode TlbEntry × State :=
  match busRead (level1Address s.cp15.ttb va) .word s with
  | (none, s1) => (.error ⟨.lv1TranslationError, 0, va⟩, s1)
  | (some l1, s1) =>
    if l1.extractLsb' 0 2 = 0b10#2 then (.ok (newEntry 0xFFF00000#32 va l1 0#32), s1)
    else if l1.extractLsb' 0 2 = 0b01#2 then walkLevel2 l1 va s1
    else (.error ⟨.sectionTranslationFault, 0, va⟩, s1)

/-- Round-robin installation (R89). -/
def tlbInstall (e : TlbEntry) (s : State) : State :=
  (s.setTlb (s.tlb.set s.tlbNext e)).setTlbNext (s.tlbNext + 1)

/-- `Translate(va, install)` (R80, R89, R92). -/
def translate (install : Bool) (va : Word) (s : State) : Except FaultCode TlbEntry × State :=
  match tlbLookup s.tlb va with
  | some e => (.ok e, s)
  | none =>
    match tableWalk va s with
    | (.error f, s1) => (.error f, s1)
    | (.ok e, s1) => (.ok e, if install then tlbInstall e s1 else s1)

/-- `TlbFlushAll()` (R90). -/
def tlbFlushAll (s : State) : State := s.setTlb (Vector.replicate 64 TlbEntry.empty)

/-- `TlbFlushEntry(v)` (R90): every entry that covers `v`. -/
def tlbFlushEntry (v : Word) (s : State) : State :=
  s.setTlb (s.tlb.map fun e => if e.hits v then TlbEntry.empty else e)

/-! ### Permission -/

/-- What the permission check answers: R97 leaves one case unpredictable (U3). -/
inductive Permission where
  | permitted
  | denied (f : FaultCode)
  | unpredictable
  deriving DecidableEq, Repr

/-- What the AP table of R97 answers. -/
inductive ApAnswer where
  | yes
  | no
  | unpredictable
  deriving DecidableEq, Repr

def ApAnswer.ofBool (b : Bool) : ApAnswer := if b then .yes else .no

/-- The AP table of R97: control bits `sysBit` (S) and `romBit` (R), the privilege and the direction. -/
def apTable (ap : BitVec 2) (sysBit romBit priv isWrite : Bool) : ApAnswer :=
  if ap = 0b00#2 then
    match sysBit, romBit with
    | false, false => .no
    | true, false => .ofBool (priv && !isWrite)
    | false, true => .ofBool (!isWrite)
    | true, true => .unpredictable
  else if ap = 0b01#2 then .ofBool priv
  else if ap = 0b10#2 then .ofBool (priv || !isWrite)
  else .yes

/-- The AP field that applies (R96): the section's, or that of the sub-page. -/
def TlbEntry.ap (e : TlbEntry) (va : Word) : BitVec 2 :=
  if e.isSection then e.level1Descriptor.extractLsb' 10 2
  else
    let sub := if e.isLarge then va.extractLsb' 14 2 else va.extractLsb' 10 2
    e.level2Descriptor.extractLsb' (4 + 2 * sub.toNat) 2

/-- The policy of a domain (R35, R94). -/
def domainPolicy (dac : Word) (d : BitVec 4) : BitVec 2 := dac.extractLsb' (2 * d.toNat) 2

/-- `CheckAccess(e, va, isWrite, priv)` (R94 to R97), with the current DAC, S and R bits and mode. -/
def checkAccess (e : TlbEntry) (va : Word) (isWrite : Bool) (s : State) : Permission :=
  let policy := domainPolicy s.cp15.dac e.domain
  if policy = 0b11#2 then .permitted
  else if policy = 0b01#2 then
    match apTable (e.ap va) (s.cp15.control.getLsbD 8) (s.cp15.control.getLsbD 9) s.priv isWrite with
    | .yes => .permitted
    | .no => .denied ⟨if e.isSection then .sectionPermissionFault else .pagePermissionFault, e.domain, va⟩
    | .unpredictable => .unpredictable
  else .denied ⟨if e.isSection then .sectionDomainFault else .pageDomainFault, e.domain, va⟩

end Sys2Proof.Machine
end

