-- ==== Sys2Proof/Machine/Cache.lean ====
section
/-! DEFINITION. The cache (20_memory.md R110 to R119): lookup, refill, write-through update, clear. -/

namespace Sys2Proof.Machine

/-- The address set and tag come from (R111, `CACHE_TAG_ADDRESS`; log entry 10). -/
def tagAddress (p : Config.Params) (a pa : Word) : Word :=
  match p.cacheTag with
  | .virtual => a
  | .physical => pa

/-- `set = a[5:4]` (R111). -/
def setOf (a : Word) : Fin 4 := (a.extractLsb' 4 2).toFin

/-- `tag = a[31:6]` (R111). -/
def tagOf (a : Word) : BitVec 26 := a.extractLsb' 6 26

/-- Whether a line hits (R112). -/
def CacheLine.hits (tag : BitVec 26) (l : CacheLine) : Bool := l.enabled && l.tag == tag

/-- One data byte of a line. -/
def CacheLine.byteAt (l : CacheLine) (i : BitVec 4) : Byte := l.data.get i.toFin

/-- The byte or word of a line at an address (R112), little-endian (R64). -/
def CacheLine.read (l : CacheLine) (a : Word) : Size → Word
  | .byte => (l.byteAt (a.extractLsb' 0 4)).setWidth 32
  | .word =>
    let q := a.extractLsb' 2 2
    l.byteAt (q ++ 3#2) ++ l.byteAt (q ++ 2#2) ++ l.byteAt (q ++ 1#2) ++ l.byteAt (q ++ 0#2)

/-- Replace one data byte of a line. -/
def CacheLine.putByte (l : CacheLine) (i : BitVec 4) (b : Byte) : CacheLine :=
  { l with data := l.data.set i.toFin b }

/-- Write a byte or word into a line (R116). -/
def CacheLine.write (l : CacheLine) (a : Word) (v : Word) : Size → CacheLine
  | .byte => l.putByte (a.extractLsb' 0 4) (v.extractLsb' 0 8)
  | .word =>
    let q := a.extractLsb' 2 2
    (((l.putByte (q ++ 0#2) (v.extractLsb' 0 8)).putByte (q ++ 1#2) (v.extractLsb' 8 8)).putByte (q ++ 2#2)
      (v.extractLsb' 16 8)).putByte (q ++ 3#2) (v.extractLsb' 24 8)

/-- The 128 lines of a set. -/
def linesOf (c : Cache) (set : Fin 4) : Vector CacheLine 128 := c.get set

/-- `CacheLookup(a)` (R112): the first enabled line of the set whose tag matches. -/
def cacheLookup (c : Cache) (a : Word) : Option CacheLine :=
  (linesOf c (setOf a)).toList.find? (CacheLine.hits (tagOf a))

/-- The line of four words, each little-endian (R113). -/
def lineOfWords (tag : BitVec 26) (w0 w1 w2 w3 : Word) : CacheLine :=
  { tag := tag, enabled := true,
    data := #v[w0.extractLsb' 0 8, w0.extractLsb' 8 8, w0.extractLsb' 16 8, w0.extractLsb' 24 8,
      w1.extractLsb' 0 8, w1.extractLsb' 8 8, w1.extractLsb' 16 8, w1.extractLsb' 24 8,
      w2.extractLsb' 0 8, w2.extractLsb' 8 8, w2.extractLsb' 16 8, w2.extractLsb' 24 8,
      w3.extractLsb' 0 8, w3.extractLsb' 8 8, w3.extractLsb' 16 8, w3.extractLsb' 24 8] }

/-- Put a line into a slot of a set. -/
def putLine (c : Cache) (set : Fin 4) (slot : Fin 128) (l : CacheLine) : Cache :=
  c.set set ((linesOf c set).set slot l)

/-- The four refill reads in increasing address order, none after a failing one (R113). -/
def refillReads (base : Word) (s : State) : Option (Word × Word × Word × Word) × State :=
  match busRead base .word s with
  | (none, s1) => (none, s1)
  | (some w0, s1) =>
    match busRead (base + 4#32) .word s1 with
    | (none, s2) => (none, s2)
    | (some w1, s2) =>
      match busRead (base + 8#32) .word s2 with
      | (none, s3) => (none, s3)
      | (some w2, s3) =>
        match busRead (base + 12#32) .word s3 with
        | (none, s4) => (none, s4)
        | (some w3, s4) => (some (w0, w1, w2, w3), s4)

/-- `CacheRefillAndRead(a, pa, n, e)` (R113): the line is committed only after all four reads; `none` is the failed
refill. `ta` is the address set and tag come from. -/
def cacheRefillAndRead (ta pa : Word) (n : Size) (s : State) : Option Word × State :=
  match refillReads (pa &&& 0xFFFFFFF0#32) s with
  | (none, s1) => (none, s1)
  | (some (w0, w1, w2, w3), s1) =>
    let line := lineOfWords (tagOf ta) w0 w1 w2 w3
    let slot := (drawSlot s1).1
    let s2 := (drawSlot s1).2
    (some (line.read ta n), s2.setCache (putLine s2.cache (setOf ta) slot line))

/-- `CacheUpdateOnWrite(a, n, v)` (R116), whatever the control bits are; every line that matches (log entry 18). -/
def cacheUpdateOnWrite (ta : Word) (n : Size) (v : Word) (s : State) : State :=
  s.setCache (s.cache.set (setOf ta)
    ((linesOf s.cache (setOf ta)).map fun l => if l.hits (tagOf ta) then l.write ta v n else l))

/-- `CacheClear()` (R117). -/
def cacheClear (s : State) : State :=
  s.setCache (s.cache.map fun lines => lines.map fun l => { l with enabled := false })

end Sys2Proof.Machine
end

