-- ==== Sys2Proof/Machine/Flags.lean ====
section
/-! DEFINITION. The flags: their places in the status word (R28), the sixteen conditions (R166), and every flag
computation of the spec (R193, R194, R232). -/

namespace Sys2Proof.Machine

/-- N, bit 31 (R28). -/
def flagN (cpsr : Word) : Bool := cpsr.getLsbD 31

/-- Z, bit 30 (R28). -/
def flagZ (cpsr : Word) : Bool := cpsr.getLsbD 30

/-- C, bit 29 (R28). -/
def flagC (cpsr : Word) : Bool := cpsr.getLsbD 29

/-- V, bit 28 (R28). -/
def flagV (cpsr : Word) : Bool := cpsr.getLsbD 28

/-- I, bit 7: IRQ disabled (R28). -/
def flagI (cpsr : Word) : Bool := cpsr.getLsbD 7

/-- F, bit 6: FIQ disabled (R28). -/
def flagF (cpsr : Word) : Bool := cpsr.getLsbD 6

/-- The predicate of each condition (R166). -/
def condHolds (cpsr : Word) : Cond → Bool
  | .eq => flagZ cpsr
  | .ne => !flagZ cpsr
  | .cs => flagC cpsr
  | .cc => !flagC cpsr
  | .mi => flagN cpsr
  | .pl => !flagN cpsr
  | .vs => flagV cpsr
  | .vc => !flagV cpsr
  | .hi => flagC cpsr && !flagZ cpsr
  | .ls => !flagC cpsr || flagZ cpsr
  | .ge => flagN cpsr == flagV cpsr
  | .lt => flagN cpsr != flagV cpsr
  | .gt => !flagZ cpsr && flagN cpsr == flagV cpsr
  | .le => flagZ cpsr || flagN cpsr != flagV cpsr
  | .al => true

/-- Run the body when the condition passes; otherwise the instruction has no effect at all (R165, R168). -/
def ifPassed (c : Cond) (s : State) (body : State → Outcome State) : Outcome State :=
  if condHolds s.cpsr c then body s else .next s

/-- A status word with its four flags replaced. -/
def withNZCV (cpsr : Word) (n z c v : Bool) : Word :=
  BitVec.ofBool n ++ BitVec.ofBool z ++ BitVec.ofBool c ++ BitVec.ofBool v ++ cpsr.extractLsb' 0 28

/-- A status word whose bits 31:28 come from another word (R221, R222, R223). -/
def withFlagBits (cpsr v : Word) : Word := v.extractLsb' 28 4 ++ cpsr.extractLsb' 0 28

/-- The result of an operation with the carry and overflow it gives; N and Z follow from the result. -/
structure Alu where
  result : Word
  carry : Bool
  overflow : Bool
  deriving DecidableEq, Repr

/-- `AddC(a, b, c)` (R194): the 33-bit sum, narrowed; carry is bit 32, overflow the sign rule. -/
def addC (a b : Word) (c : Bool) : Alu :=
  let sum := a.toNat + b.toNat + c.toNat
  let result := BitVec.ofNat 32 sum
  { result := result, carry := sum.testBit 32, overflow := a.msb == b.msb && result.msb != a.msb }

/-- The logical flag rule (R193): C from the shifter, V as it was. -/
def logical (result : Word) (shC : Bool) (cpsr : Word) : Alu := ⟨result, shC, flagV cpsr⟩

/-- The flag rule of MUL and MLA (R232): C and V as they were. -/
def multiplied (result : Word) (cpsr : Word) : Alu := ⟨result, flagC cpsr, flagV cpsr⟩

/-- `N <- result[31]; Z <- (result == 0)` with the C and V of the operation (R193, R194). -/
def flagsOf (o : Alu) (cpsr : Word) : Word := withNZCV cpsr o.result.msb (o.result == 0#32) o.carry o.overflow

/-- Write the flags of an operation. -/
def State.setFlags (s : State) (o : Alu) : State := s.setCpsr (flagsOf o s.cpsr)

end Sys2Proof.Machine
end

