-- ==== Sys2Proof/Machine/Ops.lean ====
section
/-! DEFINITION. The shared operations: the virtual read and write (R70, R71), the program counter (R13), bank and mode
switches (R25, R26), taking an exception (R322) and returning from one (R215), the fault latch and report (R336, R337). -/

namespace Sys2Proof.Machine

/-! ### Memory -/

/-- The low bits of a word address cleared (R67, R70 step 2). -/
def accessAddress (va : Word) : Size → Word
  | .byte => va
  | .word => va &&& 0xFFFFFFFC#32

/-- The alignment check (R66). -/
def alignmentFault (va : Word) (n : Size) (s : State) : Bool :=
  n == .word && va.extractLsb' 0 2 != 0#2 && s.cp15.control.getLsbD 1

/-- `cp15.control[0]` (R33, R72). -/
def State.mmuOn (s : State) : Bool := s.cp15.control.getLsbD 0

/-- `cp15.control[2]` (R33, R110). -/
def State.cacheOn (s : State) : Bool := s.cp15.control.getLsbD 2

/-- Where an access goes after the alignment check, the translation and the permission check. -/
inductive Located where
  | fault (f : FaultCode)
  | physical (pa : Word)
  | mapped (e : TlbEntry) (pa : Word)
  deriving DecidableEq, Repr

/-- The physical address an access goes to, if it goes to one. -/
def Located.target : Located → Option Word
  | .fault _ => none
  | .physical pa => some pa
  | .mapped _ pa => some pa

/-- Steps 1 to 6 of R70 and 1 to 3 of R71. A fault records the address presented, not the aligned one (R67, R101). -/
def locate (va : Word) (n : Size) (isWrite : Bool) (s : State) : Outcome (Located × State) :=
  if alignmentFault va n s then .next (.fault ⟨.alignment, 0, va⟩, s)
  else if s.mmuOn then
    match translate true (accessAddress va n) s with
    | (.error f, s1) => .next (.fault { f with va := va }, s1)
    | (.ok e, s1) =>
      match checkAccess e va isWrite s1 with
      | .permitted => .next (.mapped e (e.physAddr (accessAddress va n)), s1)
      | .denied f => .next (.fault f, s1)
      | .unpredictable => .refused .apZeroWithSAndR
  else .next (.physical (accessAddress va n), s)

/-- The answer of a read: a value, zero-extended, or a fault (R14). -/
inductive Reply where
  | value (v : Word)
  | fault (f : FaultCode)
  deriving DecidableEq, Repr

/-- `OtherBusError(e)` (R100, R101). -/
def otherBusError (e : TlbEntry) (va : Word) : FaultCode :=
  ⟨if e.isSection then .sectionOtherBusError else .pageOtherBusError, e.domain, va⟩

/-- The line-fetch error of an entry (R100, R113). -/
def linefetchError (e : TlbEntry) (va : Word) : FaultCode :=
  ⟨if e.isSection then .sectionLinefetchError else .pageLinefetchError, e.domain, va⟩

/-- The fault of a bus error with the MMU off (R73). -/
def nonMmuError (va : Word) : FaultCode := ⟨.nonMMU, 0, va⟩

/-- A value, or the fault of a bus that gave none. -/
def Reply.ofBus (f : FaultCode) : Option Word × State → Reply × State
  | (some v, s) => (.value v, s)
  | (none, s) => (.fault f, s)

/-- Steps 7 and 8 of R70: a cache hit, a refill, or one bus read. -/
def readMapped (e : TlbEntry) (pa va : Word) (n : Size) (s : State) : Reply × State :=
  let ta := tagAddress s.params (accessAddress va n) pa
  if s.cacheOn then
    match cacheLookup s.cache ta with
    | some line => (.value (line.read ta n), s)
    | none =>
      if e.cacheable then Reply.ofBus (linefetchError e va) (cacheRefillAndRead ta pa n s)
      else Reply.ofBus (otherBusError e va) (busRead pa n s)
  else Reply.ofBus (otherBusError e va) (busRead pa n s)

/-- `MemRead(va, n)` (R70, R72). -/
def memRead (va : Word) (n : Size) (s : State) : Outcome (Reply × State) :=
  andThen (locate va n false s) fun p =>
    match p.1 with
    | .fault f => .next (.fault f, p.2)
    | .physical pa => .next (Reply.ofBus (nonMmuError va) (busRead pa n p.2))
    | .mapped e pa => .next (readMapped e pa va n p.2)

/-- Steps 4 to 7 of R71: the bus write, then the matching cache line; a refused write updates no line. -/
def writeThrough (ta pa : Word) (n : Size) (v : Word) (f : FaultCode) (s : State) : Option FaultCode × State :=
  match busWrite pa n v s with
  | (true, s1) => (none, cacheUpdateOnWrite ta n v s1)
  | (false, s1) => (some f, s1)

/-- `MemWrite(va, n, v)` (R71): the fault, if there is one. -/
def memWrite (va : Word) (n : Size) (v : Word) (s : State) : Outcome (Option FaultCode × State) :=
  andThen (locate va n true s) fun p =>
    match p.1 with
    | .fault f => .next (some f, p.2)
    | .physical pa =>
      .next (writeThrough (tagAddress p.2.params (accessAddress va n) pa) pa n v (nonMmuError va) p.2)
    | .mapped e pa =>
      .next (writeThrough (tagAddress p.2.params (accessAddress va n) pa) pa n v (otherBusError e va) p.2)

/-! ### The program counter and the prefetch queue -/

/-- `FlushPrefetch()` (R163). -/
def flushPrefetch (s : State) : State := s.setPf .empty

/-- `pfCount` (R40). -/
def Prefetch.count : Prefetch → Nat
  | .empty => 0
  | .one _ => 1
  | .two _ _ => 2

/-- `nextPC` (R171). -/
def State.nextPC (s : State) : Word := s.pc - 4#32 * BitVec.ofNat 32 s.pf.count

/-- The program counter written and the queue flushed, the alignment known (R13). -/
def jumpTo (v : Word) (s : State) : State := flushPrefetch (s.setReg pcReg v)

/-- `pc <- v` by an instruction that computes `v` (R13, R212, R243, R271); a misaligned value is U1. -/
def writePc (v : Word) (s : State) : Outcome State :=
  if v.extractLsb' 0 2 = 0#2 then .next (jumpTo v s) else .refused .misalignedPc

/-- `x[r] <- v` (R12): number 15 is `pc <- v`. -/
def writeReg (r : Reg) (v : Word) (s : State) : Outcome State :=
  if r = pcReg then writePc v s else .next (s.setReg r v)

/-! ### Banks and modes -/

/-- The live R8 to R12 as one shadow slot. -/
def State.r8to12 (s : State) : Shadow := ⟨s.reg 8, s.reg 9, s.reg 10, s.reg 11, s.reg 12⟩

/-- Load R8 to R12 from a shadow slot. -/
def State.setR8to12 (s : State) (w : Shadow) : State :=
  ((((s.setReg 8 w.r8).setReg 9 w.r9).setReg 10 w.r10).setReg 11 w.r11).setReg 12 w.r12

/-- The exchange of R13 and R14 (R25). -/
def exchangeR13R14 (nb : Bank) (s : State) : State :=
  let saved := (s.setBankR13 (s.bankR13.put (s.reg 13) s.curBank)).setBankR14 (s.bankR14.put (s.reg 14) s.curBank)
  (saved.setReg 13 (saved.bankR13.get nb)).setReg 14 (saved.bankR14.get nb)

/-- The exchange of R8 to R12 on entering or leaving the FIQ bank (R23, R25). -/
def exchangeR8toR12 (nb : Bank) (s : State) : State :=
  if nb = .exc .fiq then (s.setFiqShadow0 s.r8to12).setR8to12 s.fiqShadow1
  else if s.curBank = .exc .fiq then (s.setFiqShadow1 s.r8to12).setR8to12 s.fiqShadow0
  else s

/-- `switchBank(nb)` (R25). -/
def switchBank (nb : Bank) (s : State) : State :=
  if nb = s.curBank then s else (exchangeR8toR12 nb (exchangeR13R14 nb s)).setCurBank nb

/-- `switchMode(m)` (R26). -/
def switchMode (m : Mode) (s : State) : State := switchBank m.bank (s.setCpsr (withMode s.cpsr m))

/-- Write the whole status word with the bank switch (R26, R215, R221); an illegal mode number is U2. -/
def writeCpsr (v : Word) (s : State) : Outcome State :=
  match Mode.ofBits (v.extractLsb' 0 5) with
  | some m => .next ((switchMode m s).setCpsr v)
  | none => .refused .illegalMode

/-- The bank of `SPSR[curBank]`; the main bank has no SPSR (R31). -/
def currentSpsrBank (s : State) : Outcome ExcBank :=
  match s.curBank with
  | .exc b => .next b
  | .main => .fault .noSpsrInBank

/-- `RestoreCPSR()` (R215), the return from an exception (R338). -/
def restoreCpsr (s : State) : Outcome State := andThen (currentSpsrBank s) fun b => writeCpsr (s.spsr.get b) s

/-! ### Exceptions -/

/-- `raiseException(mode, savedPC, vectorPC)` (R322), the one entry procedure. -/
def raiseException (b : ExcBank) (savedPC vectorPC : Word) (s : State) : State :=
  let s1 := s.setSpsr b s.cpsr
  let s2 := switchMode b.mode s1
  let s3 := flushPrefetch s2
  let s4 := s3.setReg 14 savedPC
  s4.setReg pcReg vectorPC

/-- Software interrupt: saved PC `A + 4`, vector 0x08 (R284, R321). -/
def raiseSoftwareInterrupt (s : State) : State := raiseException .svc (s.pc - 8#32) 0x08#32 s

/-- Undefined instruction: saved PC `A + 4`, vector 0x04 (R286, R327). -/
def raiseUndefined (s : State) : State := raiseException .und (s.pc - 8#32) 0x04#32 s

/-- The trap of an unrecognised privileged pattern, through `UPP_VECTOR` (R224). -/
def raiseUnrecognised (s : State) : State :=
  match s.params.uppVector with
  | .softwareInterrupt => raiseSoftwareInterrupt s
  | .undefinedInstruction => raiseUndefined s

/-- The nibble of a fault type (R100); `none` outside the nibble. -/
def FaultType.nibble : FaultType → Option (BitVec 4)
  | .alignment => some 1#4
  | .sectionLinefetchError => some 4#4
  | .sectionTranslationFault => some 5#4
  | .pageLinefetchError => some 6#4
  | .pageTranslationFault => some 7#4
  | .sectionOtherBusError => some 8#4
  | .sectionDomainFault => some 9#4
  | .pageOtherBusError => some 10#4
  | .pageDomainFault => some 11#4
  | .lv1TranslationError => some 12#4
  | .sectionPermissionFault => some 13#4
  | .lv2TranslationError => some 14#4
  | .pagePermissionFault => some 15#4
  | .nonMMU => none

/-- `ReportFault(f)` (R337); the synthetic non-MMU fault is not reported (R73). -/
def reportFault (f : FaultCode) (s : State) : State :=
  match f.type.nibble with
  | some t => s.setCp15 { s.cp15 with fsr := 0#24 ++ f.domain ++ t, far := f.va }
  | none => s

/-- `LatchDataFault(f)` (R336): the first fault of an instruction is kept. -/
def latchDataFault (f : FaultCode) (s : State) : State :=
  match s.faultPending with
  | some _ => s
  | none => s.setFaultPending (some f)

/-- Prefetch-abort entry (R328): saved PC `A + 4`, vector 0x0C. -/
def prefetchAbort (f : FaultCode) (s : State) : State :=
  raiseException .abt (s.pc - 8#32) 0x0C#32 (reportFault f s)

/-- Data-abort entry (R329): saved PC `A + 8`, vector 0x10. -/
def dataAbort (f : FaultCode) (s : State) : State :=
  raiseException .abt (s.pc - 4#32) 0x10#32 (reportFault f s)

/-- The end of a tick (R160, R167): a latched fault becomes a data abort. -/
def takePendingAbort (s : State) : State :=
  match s.faultPending with
  | some f => dataAbort f (s.setFaultPending none)
  | none => s

end Sys2Proof.Machine
end

