-- ==== Sys2Proof/Machine/Operands.lean ====
section
/-! DEFINITION. The operand forms: the shifter (R184 to R191), the second operand and first operand of a data-processing
instruction (R181 to R183), the address of a single transfer (R241), the addresses of a block transfer (R261). -/

namespace Sys2Proof.Machine

/-! ### The shifter: result and carry-out -/

/-- `ROR32(v, n)` (R11). -/
def ror32 (v : Word) (n : Nat) : Word := v.rotateRight n

/-- LSL, both forms (R185). -/
def shiftLsl (v : Word) (amt : Nat) (cin : Bool) : Word × Bool :=
  if amt = 0 then (v, cin)
  else if amt < 32 then (v <<< amt, v.getLsbD (32 - amt))
  else if amt = 32 then (0#32, v.getLsbD 0)
  else (0#32, false)

/-- LSR by 1 or more (R186). -/
def shiftLsr (v : Word) (amt : Nat) : Word × Bool :=
  if amt < 32 then (v >>> amt, v.getLsbD (amt - 1))
  else if amt = 32 then (0#32, v.getLsbD 31)
  else (0#32, false)

/-- ASR by 1 or more (R187): 32 or more sign-extends fully. -/
def shiftAsr (v : Word) (amt : Nat) : Word × Bool :=
  if amt < 32 then (v.sshiftRight amt, v.getLsbD (amt - 1))
  else (if v.getLsbD 31 then 0xFFFFFFFF#32 else 0#32, v.getLsbD 31)

/-- ROR by `1 .. 31` (R188, R189). -/
def shiftRor (v : Word) (amt : Nat) : Word × Bool := (ror32 v amt, v.getLsbD (amt - 1))

/-- RRX (R188): the carry comes in at bit 31, bit 0 goes out. -/
def shiftRrx (v : Word) (cin : Bool) : Word × Bool := (BitVec.ofBool cin ++ v.extractLsb' 1 31, v.getLsbD 0)

/-- `ShiftImm(type, v, amt)` (R184 to R188): amount 0 is LSL 0, LSR 32, ASR 32, RRX. -/
def shiftByImm (sh : Shift) (v : Word) (amt : BitVec 5) (cin : Bool) : Word × Bool :=
  match sh with
  | .lsl => shiftLsl v amt.toNat cin
  | .lsr => shiftLsr v (if amt = 0#5 then 32 else amt.toNat)
  | .asr => shiftAsr v (if amt = 0#5 then 32 else amt.toNat)
  | .ror => if amt = 0#5 then shiftRrx v cin else shiftRor v amt.toNat

/-- ROR by a register amount that is not 0 modulo 256 (R189). -/
def shiftRorByReg (v : Word) (amt : Nat) : Word × Bool :=
  if amt % 32 = 0 then (v, v.getLsbD 31) else shiftRor v (amt % 32)

/-- A register-specified amount of 0 (R190, `REG_SHIFT_ZERO`). -/
def shiftByZero (z : Config.RegShiftZero) (sh : Shift) (v : Word) (cin : Bool) : Word × Bool :=
  match z, sh with
  | .literal, .lsl => (v, cin)
  | .literal, .lsr => (0#32, v.getLsbD 31)
  | .literal, .asr => shiftAsr v 32
  | .literal, .ror => (v, v.getLsbD 31)
  | .datasheet, _ => (v, cin)

/-- `ShiftReg(type, v, amt)` (R184 to R190). -/
def shiftByReg (z : Config.RegShiftZero) (sh : Shift) (v : Word) (amt : BitVec 8) (cin : Bool) : Word × Bool :=
  if amt = 0#8 then shiftByZero z sh v cin
  else
    match sh with
    | .lsl => shiftLsl v amt.toNat cin
    | .lsr => shiftLsr v amt.toNat
    | .asr => shiftAsr v amt.toNat
    | .ror => shiftRorByReg v amt.toNat

/-! ### Data-processing operands -/

/-- The value of a rotated immediate (R142, R183, R222). -/
def rotatedImm (rot : BitVec 4) (imm8 : BitVec 8) : Word := ror32 (imm8.setWidth 32) (2 * rot.toNat)

/-- The second operand and the shifter carry-out (R182, R183); the words of R150 (a) are U4. -/
def operand2 (op2 : Operand2) (s : State) : Outcome (Word × Bool) :=
  match op2 with
  | .imm rot imm8 =>
    let v := rotatedImm rot imm8
    .next (v, if rot = 0#4 then flagC s.cpsr else v.getLsbD 31)
  | .shiftImm rm sh amt => .next (shiftByImm sh (s.rdpc8 rm) amt (flagC s.cpsr))
  | .shiftReg rm sh rs =>
    .next (shiftByReg s.params.regShiftZero sh (s.rdpc12 rm) ((s.rdpc12 rs).extractLsb' 0 8) (flagC s.cpsr))
  | .bits4And7 _ _ _ => .refused .bits4And7

/-- The first operand (R181): the program counter reads as `A + 12` in the register-shift-by-register form, else as
`A + 8`. -/
def operand1 (op2 : Operand2) (rn : Reg) (s : State) : Word :=
  match op2 with
  | .imm _ _ => s.rdpc8 rn
  | .shiftImm _ _ _ => s.rdpc8 rn
  | .shiftReg _ _ _ => s.rdpc12 rn
  | .bits4And7 _ _ _ => s.rdpc12 rn

/-! ### Addresses -/

/-- The offset of a single transfer (R145, R241), the carry-out discarded. -/
def offsetValue (off : Offset) (s : State) : Word :=
  match off with
  | .imm imm12 => imm12.setWidth 32
  | .shifted rm sh amt => (shiftByImm sh (s.rdpc8 rm) amt (flagC s.cpsr)).1

/-- `target` of R241. -/
def transferTarget (u : Bool) (rn : Reg) (off : Offset) (s : State) : Word :=
  if u then s.rdpc8 rn + offsetValue off s else s.rdpc8 rn - offsetValue off s

/-- `addr` of R241: pre-indexed uses the target, post-indexed the base. -/
def transferAddress (p u : Bool) (rn : Reg) (off : Offset) (s : State) : Word :=
  if p then transferTarget u rn off s else s.rdpc8 rn

/-- `wb` of R241 (R248, R252). -/
def transferWritesBack (p w : Bool) : Bool := !p || w

/-- The base register after the transfer (R248). -/
def writeBack (p w : Bool) (rn : Reg) (target : Word) (s : State) : State :=
  if transferWritesBack p w then s.setReg rn target else s

/-- The forms of U8 that R242 names: write-back to R15, R15 as the offset register. -/
def transferUsesPc (p w : Bool) (rn : Reg) (off : Offset) : Bool :=
  (transferWritesBack p w && rn == pcReg) ||
    match off with
    | .imm _ => false
    | .shifted rm _ _ => rm == pcReg

/-- Rotation of a word load (R244). -/
def rotateLoaded (addr v : Word) : Word := ror32 v (8 * (addr.extractLsb' 0 2).toNat)

/-- The registers of a list in increasing number (R146, R262). -/
def registersOf (list : BitVec 16) : List Reg :=
  [0, 1, 2, 3, 4, 5, 6, 7, 8, 9, 10, 11, 12, 13, 14, 15].filter fun r : Reg => list.getLsbD r.val

/-- `4n` of R261. -/
def blockBytes (list : BitVec 16) : Word := BitVec.ofNat 32 (4 * (registersOf list).length)

/-- `start` of R261. -/
def blockStart (p u : Bool) (base : Word) (list : BitVec 16) : Word :=
  match p, u with
  | false, true => base
  | true, true => base + 4#32
  | false, false => base - blockBytes list + 4#32
  | true, false => base - blockBytes list

/-- `final` of R261. -/
def blockFinal (u : Bool) (base : Word) (list : BitVec 16) : Word :=
  if u then base + blockBytes list else base - blockBytes list

end Sys2Proof.Machine
end

