-- ==== Sys2Proof/Machine/BlockTransfer.lean ====
section
/-! DEFINITION. LDM and STM (44_block_transfer.md R260 to R273). -/

namespace Sys2Proof.Machine

/-- The loads of R263 in increasing register number; the answer says whether one faulted, after which no read is made
(R266). -/
def loadRegisters : List Reg → Word → State → Outcome (Bool × State)
  | [], _, s => .next (false, s)
  | r :: rest, addr, s =>
    andThen (memRead addr .word s) fun m =>
      match m.1 with
      | .fault f => .next (true, latchDataFault f m.2)
      | .value v => andThen (writeReg r v m.2) fun s1 => loadRegisters rest (addr + 4#32) s1

/-- One store of an STM: the register written, a fault latched, then the write-back still to be done, which comes after
the first store (R264, R265). -/
def storeOne (r : Reg) (addr : Word) (pending : Option (Reg × Word)) (s : State) : Outcome State :=
  andThen (memWrite addr .word (s.rdpc12 r) s) fun m =>
    let s1 := match m.1 with
      | some f => latchDataFault f m.2
      | none => m.2
    match pending with
    | some (rn, final) => .next (s1.setReg rn final)
    | none => .next s1

/-- The stores of R264 in increasing register number; a fault does not end them (R267). -/
def storeRegisters : List Reg → Word → Option (Reg × Word) → State → Outcome State
  | [], _, _, s => .next s
  | r :: rest, addr, pending, s =>
    andThen (storeOne r addr pending s) fun s1 => storeRegisters rest (addr + 4#32) none s1

/-- The forms of U9 and U10 that a block transfer refuses. -/
def blockRefusal (rn : Reg) (list : BitVec 16) (userBank w : Bool) : Option Refusal :=
  if list = 0#16 then some .emptyRegisterList
  else if rn = pcReg then some .blockBaseIsPc
  else if userBank && w then some .userBankWriteBack
  else none

/-- The end of an LDM (R263): the base of a faulted transfer (R266), or the CPSR restore (R270). -/
def finishLoad (sb w : Bool) (rn : Reg) (list : BitVec 16) (base final : Word) (aborted : Bool) (s : State) :
    Outcome State :=
  if aborted then .next (s.setReg rn (if w then final else base))
  else if list.getLsbD 15 && sb && s.hasSpsr then restoreCpsr s
  else .next s

/-- The transfer of LDM, its forms checked (R263, R268, R269). -/
def loadMultiple (p u sb w : Bool) (rn : Reg) (list : BitVec 16) (s : State) : Outcome State :=
  let userBank := sb && !list.getLsbD 15
  let base := s.reg rn
  let final := blockFinal u base list
  let saved := s.curBank
  let s1 := if w then s.setReg rn final else s
  let s2 := if userBank then switchBank .main s1 else s1
  andThen (loadRegisters (registersOf list) (blockStart p u base list) s2) fun m =>
    finishLoad sb w rn list base final m.1 (if userBank then switchBank saved m.2 else m.2)

/-- The transfer of STM, its forms checked (R264, R268, R269). -/
def storeMultiple (p u sb w : Bool) (rn : Reg) (list : BitVec 16) (s : State) : Outcome State :=
  let base := s.reg rn
  let saved := s.curBank
  let s1 := if sb then switchBank .main s else s
  let pending := if w && !sb then some (rn, blockFinal u base list) else none
  andThen (storeRegisters (registersOf list) (blockStart p u base list) pending s1) fun s2 =>
    .next (if sb then switchBank saved s2 else s2)

/-- LDM (R263). -/
def execLdm (c : Cond) (p u sb w : Bool) (rn : Reg) (list : BitVec 16) (s : State) : Outcome State :=
  ifPassed c s fun s =>
    match blockRefusal rn list (sb && !list.getLsbD 15) w with
    | some r => .refused r
    | none => loadMultiple p u sb w rn list s

/-- STM (R264). -/
def execStm (c : Cond) (p u sb w : Bool) (rn : Reg) (list : BitVec 16) (s : State) : Outcome State :=
  ifPassed c s fun s =>
    match blockRefusal rn list sb w with
    | some r => .refused r
    | none => storeMultiple p u sb w rn list s

end Sys2Proof.Machine
end

