-- ==== Sys2Proof/Machine/Branch.lean ====
section
/-! DEFINITION. B, BL, SWI, the undefined-instruction space and the condition NV (45_branch_swi.md R280 to R287,
30_encoding.md R147). -/

namespace Sys2Proof.Machine

/-- The branch offset (R144): the 24-bit field shifted left by 2 and sign-extended. -/
def branchOffset (off24 : BitVec 24) : Word := (off24 ++ 0b00#2).signExtend 32

/-- The branch target, `A + 8 + off` (R281). -/
def branchTarget (off24 : BitVec 24) (s : State) : Word := (s.pc - 4#32) + branchOffset off24

/-- B (R281). -/
def execB (c : Cond) (off24 : BitVec 24) (s : State) : Outcome State :=
  ifPassed c s fun s => writePc (branchTarget off24 s) s

/-- BL (R282). -/
def execBl (c : Cond) (off24 : BitVec 24) (s : State) : Outcome State :=
  ifPassed c s fun s => writePc (branchTarget off24 s) (s.setReg 14 (s.pc - 8#32))

/-- SWI (R284); the comment is ignored. -/
def execSwi (c : Cond) (s : State) : Outcome State := ifPassed c s fun s => .next (raiseSoftwareInterrupt s)

/-- A word of the undefined-instruction space (R286). -/
def undefinedOp (c : Cond) (s : State) : Outcome State := ifPassed c s fun s => .next (raiseUndefined s)

/-- R148 (a). -/
def execUndefined011x1 (c : Cond) (s : State) : Outcome State := undefinedOp c s

/-- R148 (b): coprocessor data transfers. -/
def execUndefinedLdcStc (c : Cond) (s : State) : Outcome State := undefinedOp c s

/-- R148 (c): coprocessor data operations. -/
def execUndefinedCdp (c : Cond) (s : State) : Outcome State := undefinedOp c s

/-- R148 (d): register transfers of a coprocessor other than 15. -/
def execUndefinedMrcMcrNotP15 (c : Cond) (s : State) : Outcome State := undefinedOp c s

/-- Condition NV (R147): a no-operation that consumes its slot. -/
def execNvAny (s : State) : Outcome State := .next s

end Sys2Proof.Machine
end

