-- ==== Sys2Proof/Machine/Cp15.lean ====
section
/-! DEFINITION. MRC p15 and MCR p15 (46_cp15.md R290 to R307), both variants of R307. -/

namespace Sys2Proof.Machine

/-- `Cp15Read(n)` (R294 to R297). -/
def cp15Read (crn : BitVec 4) (s : State) : Word :=
  if crn = 0#4 then s.processorId
  else if crn = 5#4 then s.cp15.fsr
  else if crn = 6#4 then s.cp15.far
  else 0xFFFFFFFF#32

/-- The write of a CP15 register (R298 to R305, R307). -/
def cp15Write (crn : BitVec 4) (opc2 : BitVec 3) (v : Word) (s : State) : State :=
  if crn = 1#4 then s.setCp15 { s.cp15 with control := v }
  else if crn = 2#4 then s.setCp15 { s.cp15 with ttb := v }
  else if crn = 3#4 then s.setCp15 { s.cp15 with dac := v }
  else if crn = 5#4 then
    if s.params.tVariant then s.setCp15 { s.cp15 with fsr := v } else tlbFlushAll s
  else if crn = 6#4 then
    if s.params.tVariant then s.setCp15 { s.cp15 with far := v } else tlbFlushEntry v s
  else if crn = 7#4 then cacheClear s
  else if crn = 8#4 then
    if s.params.tVariant then
      if opc2 = 1#3 then tlbFlushEntry v s else tlbFlushAll s
    else s
  else s

/-- A CP15 transfer: the privilege test comes first (R290, R291), then U11. -/
def cp15Transfer (c : Cond) (rd : Reg) (body : State → State) (s : State) : Outcome State :=
  ifPassed c s fun s =>
    if !s.priv then .next (raiseUnrecognised s)
    else if rd = pcReg then .refused .cp15TransferOfPc
    else .next (body s)

/-- MRC p15 (R293). -/
def execMrc (c : Cond) (crn : BitVec 4) (rd : Reg) (s : State) : Outcome State :=
  cp15Transfer c rd (fun s => s.setReg rd (cp15Read crn s)) s

/-- MCR p15 (R298 to R306). -/
def execMcr (c : Cond) (crn : BitVec 4) (rd : Reg) (opc2 : BitVec 3) (s : State) : Outcome State :=
  cp15Transfer c rd (fun s => cp15Write crn opc2 (s.reg rd) s) s

end Sys2Proof.Machine
end

