-- ==== Sys2Proof/Machine/DataProcessing.lean ====
section
/-! DEFINITION. The sixteen data-processing instructions (41_data_processing.md R180 to R217). Each meaning is its row of
R195 over the two shared shapes `dataOp` (writes Rd, R192) and `compareOp` (writes flags only, R214). -/

namespace Sys2Proof.Machine

/-- The common tail (R192): flags, then Rd, or the jump with the CPSR restore where the mode has an SPSR (R212, R215,
R216). -/
def dataTail (sf : Bool) (rd : Reg) (o : Alu) (s : State) : Outcome State :=
  let s1 := if sf then s.setFlags o else s
  if rd = pcReg then
    andThen (writePc o.result s1) fun s2 => if sf && s2.hasSpsr then restoreCpsr s2 else .next s2
  else .next (s1.setReg rd o.result)

/-- An instruction that writes Rd: `f` gives the operation from the state, the second operand and the shifter carry. -/
def dataOp (c : Cond) (sf : Bool) (rd : Reg) (op2 : Operand2) (f : State → Word → Bool → Alu) (s : State) :
    Outcome State :=
  ifPassed c s fun s => andThen (operand2 op2 s) fun p => dataTail sf rd (f s p.1 p.2) s

/-- An instruction that writes flags only. -/
def compareOp (c : Cond) (op2 : Operand2) (f : State → Word → Bool → Alu) (s : State) : Outcome State :=
  ifPassed c s fun s => andThen (operand2 op2 s) fun p => .next (s.setFlags (f s p.1 p.2))

/-- AND (R196). -/
def execAnd (c : Cond) (sf : Bool) (rn rd : Reg) (op2 : Operand2) (s : State) : Outcome State :=
  dataOp c sf rd op2 (fun s b shC => logical (operand1 op2 rn s &&& b) shC s.cpsr) s

/-- EOR (R197). -/
def execEor (c : Cond) (sf : Bool) (rn rd : Reg) (op2 : Operand2) (s : State) : Outcome State :=
  dataOp c sf rd op2 (fun s b shC => logical (operand1 op2 rn s ^^^ b) shC s.cpsr) s

/-- SUB (R198). -/
def execSub (c : Cond) (sf : Bool) (rn rd : Reg) (op2 : Operand2) (s : State) : Outcome State :=
  dataOp c sf rd op2 (fun s b _ => addC (operand1 op2 rn s) (~~~b) true) s

/-- RSB (R199). -/
def execRsb (c : Cond) (sf : Bool) (rn rd : Reg) (op2 : Operand2) (s : State) : Outcome State :=
  dataOp c sf rd op2 (fun s b _ => addC b (~~~(operand1 op2 rn s)) true) s

/-- ADD (R200). -/
def execAdd (c : Cond) (sf : Bool) (rn rd : Reg) (op2 : Operand2) (s : State) : Outcome State :=
  dataOp c sf rd op2 (fun s b _ => addC (operand1 op2 rn s) b false) s

/-- ADC (R201). -/
def execAdc (c : Cond) (sf : Bool) (rn rd : Reg) (op2 : Operand2) (s : State) : Outcome State :=
  dataOp c sf rd op2 (fun s b _ => addC (operand1 op2 rn s) b (flagC s.cpsr)) s

/-- SBC (R202). -/
def execSbc (c : Cond) (sf : Bool) (rn rd : Reg) (op2 : Operand2) (s : State) : Outcome State :=
  dataOp c sf rd op2 (fun s b _ => addC (operand1 op2 rn s) (~~~b) (flagC s.cpsr)) s

/-- RSC (R203). -/
def execRsc (c : Cond) (sf : Bool) (rn rd : Reg) (op2 : Operand2) (s : State) : Outcome State :=
  dataOp c sf rd op2 (fun s b _ => addC b (~~~(operand1 op2 rn s)) (flagC s.cpsr)) s

/-- ORR (R208). -/
def execOrr (c : Cond) (sf : Bool) (rn rd : Reg) (op2 : Operand2) (s : State) : Outcome State :=
  dataOp c sf rd op2 (fun s b shC => logical (operand1 op2 rn s ||| b) shC s.cpsr) s

/-- BIC (R210). -/
def execBic (c : Cond) (sf : Bool) (rn rd : Reg) (op2 : Operand2) (s : State) : Outcome State :=
  dataOp c sf rd op2 (fun s b shC => logical (operand1 op2 rn s &&& ~~~b) shC s.cpsr) s

/-- MOV (R209); the Rn field is ignored and not read. -/
def execMov (c : Cond) (sf : Bool) (rd : Reg) (op2 : Operand2) (s : State) : Outcome State :=
  dataOp c sf rd op2 (fun s b shC => logical b shC s.cpsr) s

/-- MVN (R211); the Rn field is ignored and not read. -/
def execMvn (c : Cond) (sf : Bool) (rd : Reg) (op2 : Operand2) (s : State) : Outcome State :=
  dataOp c sf rd op2 (fun s b shC => logical (~~~b) shC s.cpsr) s

/-- TST (R204); the Rd field is ignored (R214). -/
def execTst (c : Cond) (rn : Reg) (op2 : Operand2) (s : State) : Outcome State :=
  compareOp c op2 (fun s b shC => logical (operand1 op2 rn s &&& b) shC s.cpsr) s

/-- TEQ (R205); the Rd field is ignored (R214). -/
def execTeq (c : Cond) (rn : Reg) (op2 : Operand2) (s : State) : Outcome State :=
  compareOp c op2 (fun s b shC => logical (operand1 op2 rn s ^^^ b) shC s.cpsr) s

/-- CMP (R206); the Rd field is ignored (R214). -/
def execCmp (c : Cond) (rn : Reg) (op2 : Operand2) (s : State) : Outcome State :=
  compareOp c op2 (fun s b _ => addC (operand1 op2 rn s) (~~~b) true) s

/-- CMN (R207); the Rd field is ignored (R214). -/
def execCmn (c : Cond) (rn : Reg) (op2 : Operand2) (s : State) : Outcome State :=
  compareOp c op2 (fun s b _ => addC (operand1 op2 rn s) b false) s

end Sys2Proof.Machine
end

