-- ==== Sys2Proof/Machine/Multiply.lean ====
section
/-! DEFINITION. MUL and MLA (42_multiply.md R230 to R236). -/

namespace Sys2Proof.Machine

/-- A multiply: R15 as an operand is U7 (R235); C and V are unchanged (R232); all operands are read first (R234). -/
def multiplyOp (c : Cond) (sf : Bool) (rd : Reg) (usesPc : Bool) (result : State → Word) (s : State) : Outcome State :=
  ifPassed c s fun s =>
    if usesPc then .refused .multiplyUsesPc
    else
      let s1 := if sf then s.setFlags (multiplied (result s) s.cpsr) else s
      .next (s1.setReg rd (result s))

/-- MUL (R231). -/
def execMul (c : Cond) (sf : Bool) (rd rs rm : Reg) (s : State) : Outcome State :=
  multiplyOp c sf rd (rd == pcReg || rm == pcReg || rs == pcReg) (fun s => s.reg rm * s.reg rs) s

/-- MLA (R233). -/
def execMla (c : Cond) (sf : Bool) (rd rn rs rm : Reg) (s : State) : Outcome State :=
  multiplyOp c sf rd (rd == pcReg || rm == pcReg || rs == pcReg || rn == pcReg)
    (fun s => s.reg rm * s.reg rs + s.reg rn) s

end Sys2Proof.Machine
end

