-- ==== Sys2Proof/Machine/PsrTransfer.lean ====
section
/-! DEFINITION. MRS and MSR (41_data_processing.md R219 to R223) and the trap of an unrecognised pattern (R224). -/

namespace Sys2Proof.Machine

/-- A PSR transfer that names a register: number 15 is U5. -/
def psrTransfer (c : Cond) (r : Reg) (body : State → Outcome State) (s : State) : Outcome State :=
  ifPassed c s fun s => if r = pcReg then .refused .psrTransferOfPc else body s

/-- `CPSR <- v`, whole in a privileged mode, the flag bits only in User mode (R221). -/
def msrWhole (v : Word) (s : State) : Outcome State :=
  if s.priv then writeCpsr v s else .next (s.setCpsr (withFlagBits s.cpsr v))

/-- `CPSR[31:28] <- v[31:28]`, in every mode (R222). -/
def msrFlags (v : Word) (s : State) : Outcome State := .next (s.setCpsr (withFlagBits s.cpsr v))

/-- Change `SPSR[curBank]` where the mode has one; no effect in User and System mode (R223). -/
def msrSaved (f : Word → Word) (s : State) : Outcome State :=
  if s.hasSpsr then andThen (currentSpsrBank s) fun b => .next (s.setSpsr b (f (s.spsr.get b))) else .next s

/-- MRS Rd, CPSR (R219). -/
def execMrsCpsr (c : Cond) (rd : Reg) (s : State) : Outcome State :=
  psrTransfer c rd (fun s => .next (s.setReg rd s.cpsr)) s

/-- MRS Rd, SPSR (R220): in User and System mode Rd receives a free value (U6, log entry 7). -/
def execMrsSpsr (c : Cond) (rd : Reg) (s : State) : Outcome State :=
  psrTransfer c rd (fun s =>
    if s.hasSpsr then andThen (currentSpsrBank s) fun b => .next (s.setReg rd (s.spsr.get b))
    else .next ((drawWord s).2.setReg rd (drawWord s).1)) s

/-- MSR CPSR, Rm (R221). -/
def execMsrCpsr (c : Cond) (rm : Reg) (s : State) : Outcome State :=
  psrTransfer c rm (fun s => msrWhole (s.reg rm) s) s

/-- MSR CPSR_flg, Rm (R222). -/
def execMsrCpsrFlgReg (c : Cond) (rm : Reg) (s : State) : Outcome State :=
  psrTransfer c rm (fun s => msrFlags (s.reg rm) s) s

/-- MSR CPSR_flg, #imm (R222). -/
def execMsrCpsrFlgImm (c : Cond) (rot : BitVec 4) (imm8 : BitVec 8) (s : State) : Outcome State :=
  ifPassed c s fun s => msrFlags (rotatedImm rot imm8) s

/-- MSR SPSR, Rm (R223). -/
def execMsrSpsr (c : Cond) (rm : Reg) (s : State) : Outcome State :=
  psrTransfer c rm (fun s => msrSaved (fun _ => s.reg rm) s) s

/-- MSR SPSR_flg, Rm (R223). -/
def execMsrSpsrFlgReg (c : Cond) (rm : Reg) (s : State) : Outcome State :=
  psrTransfer c rm (fun s => msrSaved (fun old => withFlagBits old (s.reg rm)) s) s

/-- MSR SPSR_flg, #imm (R223). -/
def execMsrSpsrFlgImm (c : Cond) (rot : BitVec 4) (imm8 : BitVec 8) (s : State) : Outcome State :=
  ifPassed c s fun s => msrSaved (fun old => withFlagBits old (rotatedImm rot imm8)) s

/-- An unrecognised privileged pattern (R149, R224). -/
def execUppTrap (c : Cond) (s : State) : Outcome State :=
  ifPassed c s fun s => .next (raiseUnrecognised s)

/-- A word of the PSR space with bit 25 clear and bits 4 and 7 set is U4 (R150 a, log entry 13). -/
def execUppBits4And7 (c : Cond) (s : State) : Outcome State :=
  ifPassed c s fun _ => .refused .bits4And7

end Sys2Proof.Machine
end

