-- ==== Sys2Proof/Machine/SingleTransfer.lean ====
section
/-! DEFINITION. LDR, LDRB, STR, STRB, SWP, SWPB (43_single_transfer_swap.md R240 to R257). A data fault is latched here
and becomes a data abort at the end of the tick (R167). -/

namespace Sys2Proof.Machine

/-- A load (R243, R245): the fault leaves Rd alone and the write-back is still done (R249); the loaded value is written
last (R253). -/
def loadSingle (n : Size) (convert : Word → Word → Word) (p u w : Bool) (rn rd : Reg) (off : Offset) (s : State) :
    Outcome State :=
  let target := transferTarget u rn off s
  let addr := transferAddress p u rn off s
  andThen (memRead addr n s) fun r =>
    match r.1 with
    | .fault f => .next (writeBack p w rn target (latchDataFault f r.2))
    | .value v => writeReg rd (convert addr v) (writeBack p w rn target r.2)

/-- A store (R246, R247): the write-back is done also when the store faulted; Rd = 15 stores `A + 12` (R250). -/
def storeSingle (n : Size) (p u w : Bool) (rn rd : Reg) (off : Offset) (s : State) : Outcome State :=
  let target := transferTarget u rn off s
  let addr := transferAddress p u rn off s
  andThen (memWrite addr n (s.rdpc12 rd) s) fun r =>
    match r.1 with
    | some f => .next (writeBack p w rn target (latchDataFault f r.2))
    | none => .next (writeBack p w rn target r.2)

/-- A swap (R255, R257): a faulting read ends it; a faulting write is latched and Rd is still loaded. -/
def swapOp (n : Size) (convert : Word → Word → Word) (rn rd rm : Reg) (s : State) : Outcome State :=
  let addr := s.reg rn
  let src := s.reg rm
  andThen (memRead addr n s) fun r =>
    match r.1 with
    | .fault f => .next (latchDataFault f r.2)
    | .value v =>
      andThen (memWrite addr n src r.2) fun w =>
        match w.1 with
        | some f => .next ((latchDataFault f w.2).setReg rd (convert addr v))
        | none => .next (w.2.setReg rd (convert addr v))

/-- LDR (R243). -/
def execLdr (c : Cond) (p u w : Bool) (rn rd : Reg) (off : Offset) (s : State) : Outcome State :=
  ifPassed c s fun s =>
    if transferUsesPc p w rn off then .refused .transferUsesPc else loadSingle .word rotateLoaded p u w rn rd off s

/-- LDRB (R245); Rd = 15 is U8. -/
def execLdrb (c : Cond) (p u w : Bool) (rn rd : Reg) (off : Offset) (s : State) : Outcome State :=
  ifPassed c s fun s =>
    if transferUsesPc p w rn off then .refused .transferUsesPc
    else if rd = pcReg then .refused .byteLoadToPc
    else loadSingle .byte (fun _ v => v) p u w rn rd off s

/-- STR (R246). -/
def execStr (c : Cond) (p u w : Bool) (rn rd : Reg) (off : Offset) (s : State) : Outcome State :=
  ifPassed c s fun s =>
    if transferUsesPc p w rn off then .refused .transferUsesPc else storeSingle .word p u w rn rd off s

/-- STRB (R247). -/
def execStrb (c : Cond) (p u w : Bool) (rn rd : Reg) (off : Offset) (s : State) : Outcome State :=
  ifPassed c s fun s =>
    if transferUsesPc p w rn off then .refused .transferUsesPc else storeSingle .byte p u w rn rd off s

/-- Any R15 in a swap (U8). -/
def swapUsesPc (rn rd rm : Reg) : Bool := rn == pcReg || rd == pcReg || rm == pcReg

/-- SWP (R255). -/
def execSwp (c : Cond) (rn rd rm : Reg) (s : State) : Outcome State :=
  ifPassed c s fun s =>
    if swapUsesPc rn rd rm then .refused .swapUsesPc else swapOp .word rotateLoaded rn rd rm s

/-- SWPB (R256). -/
def execSwpb (c : Cond) (rn rd rm : Reg) (s : State) : Outcome State :=
  ifPassed c s fun s =>
    if swapUsesPc rn rd rm then .refused .swapUsesPc else swapOp .byte (fun _ v => v) rn rd rm s

end Sys2Proof.Machine
end

