-- ==== Sys2Proof/Machine/Dispatch.lean ====
section
/-! DEFINITION. Execute(word) of R165 and R169, one arm for each constructor of Instr. -/

namespace Sys2Proof.Machine

def exec (i : Instr) (s : State) : Host.Outcome State Fault Refusal :=
  match i with
  | .and c sf rn rd op2 => Sys2Proof.Machine.execAnd c sf rn rd op2 s
  | .eor c sf rn rd op2 => Sys2Proof.Machine.execEor c sf rn rd op2 s
  | .sub c sf rn rd op2 => Sys2Proof.Machine.execSub c sf rn rd op2 s
  | .rsb c sf rn rd op2 => Sys2Proof.Machine.execRsb c sf rn rd op2 s
  | .add c sf rn rd op2 => Sys2Proof.Machine.execAdd c sf rn rd op2 s
  | .adc c sf rn rd op2 => Sys2Proof.Machine.execAdc c sf rn rd op2 s
  | .sbc c sf rn rd op2 => Sys2Proof.Machine.execSbc c sf rn rd op2 s
  | .rsc c sf rn rd op2 => Sys2Proof.Machine.execRsc c sf rn rd op2 s
  | .tst c rn _ op2 => Sys2Proof.Machine.execTst c rn op2 s
  | .teq c rn _ op2 => Sys2Proof.Machine.execTeq c rn op2 s
  | .cmp c rn _ op2 => Sys2Proof.Machine.execCmp c rn op2 s
  | .cmn c rn _ op2 => Sys2Proof.Machine.execCmn c rn op2 s
  | .orr c sf rn rd op2 => Sys2Proof.Machine.execOrr c sf rn rd op2 s
  | .mov c sf _ rd op2 => Sys2Proof.Machine.execMov c sf rd op2 s
  | .bic c sf rn rd op2 => Sys2Proof.Machine.execBic c sf rn rd op2 s
  | .mvn c sf _ rd op2 => Sys2Proof.Machine.execMvn c sf rd op2 s
  | .mrsCpsr c rd => Sys2Proof.Machine.execMrsCpsr c rd s
  | .mrsSpsr c rd => Sys2Proof.Machine.execMrsSpsr c rd s
  | .msrCpsr c rm => Sys2Proof.Machine.execMsrCpsr c rm s
  | .msrCpsrFlgReg c rm => Sys2Proof.Machine.execMsrCpsrFlgReg c rm s
  | .msrCpsrFlgImm c rot imm8 => Sys2Proof.Machine.execMsrCpsrFlgImm c rot imm8 s
  | .msrSpsr c rm => Sys2Proof.Machine.execMsrSpsr c rm s
  | .msrSpsrFlgReg c rm => Sys2Proof.Machine.execMsrSpsrFlgReg c rm s
  | .msrSpsrFlgImm c rot imm8 => Sys2Proof.Machine.execMsrSpsrFlgImm c rot imm8 s
  | .mul c sf rd _ rs rm => Sys2Proof.Machine.execMul c sf rd rs rm s
  | .mla c sf rd rn rs rm => Sys2Proof.Machine.execMla c sf rd rn rs rm s
  | .swp c rn rd rm => Sys2Proof.Machine.execSwp c rn rd rm s
  | .swpb c rn rd rm => Sys2Proof.Machine.execSwpb c rn rd rm s
  | .ldr c p u w rn rd off => Sys2Proof.Machine.execLdr c p u w rn rd off s
  | .ldrb c p u w rn rd off => Sys2Proof.Machine.execLdrb c p u w rn rd off s
  | .str c p u w rn rd off => Sys2Proof.Machine.execStr c p u w rn rd off s
  | .strb c p u w rn rd off => Sys2Proof.Machine.execStrb c p u w rn rd off s
  | .ldm c p u sb w rn list => Sys2Proof.Machine.execLdm c p u sb w rn list s
  | .stm c p u sb w rn list => Sys2Proof.Machine.execStm c p u sb w rn list s
  | .b c off24 => Sys2Proof.Machine.execB c off24 s
  | .bl c off24 => Sys2Proof.Machine.execBl c off24 s
  | .swi c _ => Sys2Proof.Machine.execSwi c s
  | .mrc c _ crn rd _ _ => Sys2Proof.Machine.execMrc c crn rd s
  | .mcr c _ crn rd opc2 _ => Sys2Proof.Machine.execMcr c crn rd opc2 s
  | .undefined011x1 c _ _ => Sys2Proof.Machine.execUndefined011x1 c s
  | .undefinedLdcStc c _ => Sys2Proof.Machine.execUndefinedLdcStc c s
  | .undefinedCdp c _ _ => Sys2Proof.Machine.execUndefinedCdp c s
  | .undefinedMrcMcrNotP15 c _ _ _ _ => Sys2Proof.Machine.execUndefinedMrcMcrNotP15 c s
  | .uppTrap c _ _ _ _ _ => Sys2Proof.Machine.execUppTrap c s
  | .uppBits4And7 c _ _ _ _ _ _ => Sys2Proof.Machine.execUppBits4And7 c s
  | .nvAny _ => Sys2Proof.Machine.execNvAny s

end Sys2Proof.Machine
end

