-- ==== Sys2Proof/Machine/Pipeline.lean ====
section
/-! DEFINITION. The tick (40_pipeline_dispatch.md R160 to R174) over any execution of a word, and the placing of a word
where the next tick executes it. -/

namespace Sys2Proof.Machine

/-- The fetch (R68, R162): a fault is stored in the slot and raises nothing. -/
def fetch (s : State) : Outcome (Slot × State) :=
  andThen (memRead s.pc .word s) fun m =>
    match m.1 with
    | .value v => .next (.word v, m.2)
    | .fault f => .next (.fault f, m.2)

/-- The queue after the fetch, and the program counter advanced (R160). -/
def advance (q : Prefetch) (s : State) : State := (s.setPf q).setReg pcReg (s.pc + 4#32)

/-- What the popped slot does (R164, R165). -/
def runSlot (execute : Word → State → Outcome State) (slot : Slot) (s : State) : Outcome State :=
  match slot with
  | .word w => execute w s
  | .fault f => .next (prefetchAbort f s)

/-- `tick()` (R160, R161, R170): pop, fetch, execute, then the latched data fault (R167). -/
def tickWith (execute : Word → State → Outcome State) (s : State) : Outcome State :=
  if s.halted then .next s
  else
    match s.pf with
    | .empty => andThen (fetch s) fun m => .next (advance (.one m.1) m.2)
    | .one a => andThen (fetch s) fun m => .next (advance (.two a m.1) m.2)
    | .two a b =>
      andThen (fetch s) fun m =>
        andThen (runSlot execute a (advance (.two b m.1) m.2)) fun s1 => .next (takePendingAbort s1)

/-- The state in which the next tick executes `w` at `nextPC` (log entry 6): `w` stored in memory at `nextPC` and in the
older slot, the word after it in the newer one, as the two fetches of R174 leave them with the MMU off. -/
def placeNextWord (w : Word) (s : State) : State :=
  let a := s.nextPC
  let mem := s.mem.writeWord a.toNat w
  { (s.setReg pcReg (a + 8#32)) with
    mem := mem
    pf := .two (.word w) (.word (mem.readWord (a + 4#32).toNat))
    halted := false
    schedule := [] }

end Sys2Proof.Machine
end

