-- ==== Sys2Proof/Machine/Environment.lean ====
section
/-! DEFINITION. What the environment does between ticks (00_scope.md R7, 60_exceptions.md R326 to R333, R345, R347,
70_reset_and_hazards.md R360), and the step over the schedule (log entry 11). -/

namespace Sys2Proof.Machine

/-- `requestFIQ()` (R330). -/
def requestFIQ (s : State) : State :=
  let s1 := s.setHalted false
  if flagF s1.cpsr then s1
  else
    let s2 := raiseException .fiq (s1.nextPC + 4#32) 0x1C#32 s1
    s2.setCpsr (s2.cpsr ||| 0xC0#32)

/-- `requestIRQ()` (R331). -/
def requestIRQ (s : State) : State :=
  let s1 := s.setHalted false
  if flagI s1.cpsr then s1
  else
    let s2 := raiseException .irq (s1.nextPC + 4#32) 0x18#32 s1
    s2.setCpsr (s2.cpsr ||| 0x80#32)

/-- `reset()` (R326, R360), the six steps in order. -/
def resetProcedure (s : State) : State :=
  let s1 := raiseException .svc 0#32 0#32 s
  let s2 := s1.setCp15 { s1.cp15 with control := 0#32 }
  let s3 := s2.setCp15 { s2.cp15 with far := 0#32 }
  let s4 := (tlbFlushAll s3).setTlbNext 0
  let s5 := cacheClear s4
  (s5.setFaultPending none).setHalted false

/-- `readVirtualDebug(va, size)` (R347): translation without installing, then a bus read; any failure is no value. The
bus calls are recorded, no core state changes. -/
def readVirtualDebug (va : Word) (n : Size) (s : State) : Option Word × State :=
  if s.mmuOn then
    match translate false va s with
    | (.ok e, s1) => busRead (e.physAddr (accessAddress va n)) n s1
    | (.error _, s1) => (none, s1)
  else busRead (accessAddress va n) n s

/-- `getGPR(index)` (R7, R348): the raw live register. -/
def getGPR (r : Reg) (s : State) : Word := s.reg r

/-- `getCPSR()` (R7, R348). -/
def getCPSR (s : State) : Word := s.cpsr

/-- One action of the environment that is no tick (R7, R172, R369). -/
def environmentAct (a : EnvAction) (s : State) : State :=
  match a with
  | .tick => s
  | .reset => resetProcedure s
  | .requestFIQ => requestFIQ s
  | .requestIRQ => requestIRQ s
  | .setProcessorID v => s.setProcessorId v
  | .halt => s.setHalted true
  | .debugRead va n => (readVirtualDebug va n s).2
  | .busMaster pa b => s.setMem (s.mem.writeByte pa.toNat b)

/-- One step: the next action of the schedule; a tick once the schedule is empty (R6, R160, R172). -/
def stepWith (execute : Word → State → Outcome State) (s : State) : Outcome State :=
  match s.schedule with
  | [] => tickWith execute s
  | .tick :: rest => tickWith execute (s.setSchedule rest)
  | a :: rest => .next (environmentAct a (s.setSchedule rest))

end Sys2Proof.Machine
end

