-- ==== Sys2Proof/Machine/Step.lean ====
section
/-! DEFINITION. One step of the machine (R160, R165), and the state in which the next step runs a given word. -/

namespace Sys2Proof.Machine

/-- Execute(word) (R165): decode, then the meaning. -/
def execWord (w : Word) (s : State) : Host.Outcome State Fault Refusal := exec (decodeWord w) s

/-- One step: a tick, or the next action of the environment. -/
def step (s : State) : Host.Outcome State Fault Refusal := stepWith execWord s

/-- `s` with the word of an instruction placed so that the very next step executes it (log entry 6). -/
def State.withFetchWord (s : State) (nbits w : Nat) : State := placeNextWord (BitVec.ofNat 32 (w % 2 ^ nbits)) s

end Sys2Proof.Machine
end

