-- ==== Sys2Proof/Safety.lean ====
section
/-! DEFINITION. The terms the statements use: the invariant of the machine (10_state.md R47), what an operation leaves
unchanged, and the platform that is plain RAM. -/

namespace Sys2Proof.Machine

/-! ### The invariant -/

/-- `CPSR.M` is one of the seven modes and `curBank = bankOf(CPSR.M)` (R29, R47 a). -/
def State.BankMatches (s : State) : Prop := ∃ m, s.mode = some m ∧ s.curBank = m.bank

/-- `R[15][1:0] = 0b00` (R27, R373). -/
def State.PcAligned (s : State) : Prop := s.pc.extractLsb' 0 2 = 0#2

/-- No set holds two enabled lines with one tag (R114). -/
def TagsDistinct (c : Cache) : Prop :=
  ∀ (set : Fin 4) (i j : Fin 128), i ≠ j → ((linesOf c set).get i).enabled = true →
    ((linesOf c set).get j).enabled = true → ((linesOf c set).get i).tag ≠ ((linesOf c set).get j).tag

/-- `cp15.fsr` has bits 31:8 zero, where software cannot write it (R36). -/
def State.FsrInRange (s : State) : Prop := s.params.tVariant = false → s.cp15.fsr.extractLsb' 8 24 = 0#24

/-- The invariant of the machine between two steps (R27, R29, R36, R47 a, R47 d, R114, and the form of memory). -/
structure State.Inv (s : State) : Prop where
  bankMatches : s.BankMatches
  pcAligned : s.PcAligned
  noFaultPending : s.faultPending = none
  fsrInRange : s.FsrInRange
  tagsDistinct : TagsDistinct s.cache
  memoryCanonical : s.mem.wf = true

/-! ### Frames -/

/-- What a virtual read may change: the TLB, the cache, the record of bus calls and the count of free draws. -/
def ReadFrame (s t : State) : Prop :=
  t = { s with tlb := t.tlb, tlbNext := t.tlbNext, cache := t.cache, busTrace := t.busTrace, draws := t.draws }

/-- What a virtual write may change: as a read, with the memory and the halted flag behind the bus. -/
def WriteFrame (s t : State) : Prop :=
  t = { s with
    tlb := t.tlb, tlbNext := t.tlbNext, cache := t.cache, busTrace := t.busTrace, draws := t.draws, mem := t.mem
    halted := t.halted }

/-- Only general registers, the status word and the prefetch queue may differ. -/
def RegisterFrame (s t : State) : Prop := t = { s with regs := t.regs, cpsr := t.cpsr, pf := t.pf }

/-- The registers and the status word of `t` are those of `s` but for the registers of a list. -/
def RegsSameBut (rs : List Reg) (s t : State) : Prop := ∀ r, r ∉ rs → t.reg r = s.reg r

/-- Every byte of memory reads as before. -/
def MemorySame (s t : State) : Prop := ∀ a, t.mem.readByte a = s.mem.readByte a

/-- The bits of the status word below the flags are as before. -/
def StatusBelowFlagsSame (s t : State) : Prop := t.cpsr.extractLsb' 0 28 = s.cpsr.extractLsb' 0 28

/-- An address that is none of the `n` bytes from `pa` on. -/
def OutsideAccess (pa : Word) (n : Size) (a : Nat) : Prop := a < pa.toNat ∨ pa.toNat + sizeBytes n ≤ a

/-! ### Arithmetic over the integers (R194, R195) -/

/-- `a + b + c` computed exactly and narrowed: carry out of 32 bits, overflow of the signed range. -/
def exactSum (a b : Word) (c : Nat) : Alu where
  result := BitVec.ofNat 32 (a.toNat + b.toNat + c)
  carry := decide (2 ^ 32 ≤ a.toNat + b.toNat + c)
  overflow := decide (a.toInt + b.toInt + c < -2 ^ 31 ∨ 2 ^ 31 ≤ a.toInt + b.toInt + c)

/-- `a - b - borrow` computed exactly and narrowed: carry is not-borrow, overflow of the signed range. -/
def exactDifference (a b : Word) (borrow : Nat) : Alu where
  result := BitVec.ofInt 32 (a.toInt - b.toInt - borrow)
  carry := decide (b.toNat + borrow ≤ a.toNat)
  overflow := decide (a.toInt - b.toInt - borrow < -2 ^ 31 ∨ 2 ^ 31 ≤ a.toInt - b.toInt - borrow)

/-- The carry flag as the number ADC adds. -/
def carryIn (s : State) : Nat := if flagC s.cpsr then 1 else 0

/-- The carry flag as the number SBC and RSC take away. -/
def borrowIn (s : State) : Nat := if flagC s.cpsr then 0 else 1

/-! ### The rows of R195 -/

/-- The twelve data-processing instructions that write Rd. -/
inductive DpOp where
  | and | eor | sub | rsb | add | adc | sbc | rsc | orr | mov | bic | mvn
  deriving DecidableEq, Repr

/-- The instruction of a row; MOV and MVN have the Rn field as a field they ignore. -/
def DpOp.instr (o : DpOp) (c : Cond) (sf : Bool) (rn rd : Reg) (op2 : Operand2) : Instr :=
  match o with
  | .and => .and c sf rn rd op2
  | .eor => .eor c sf rn rd op2
  | .sub => .sub c sf rn rd op2
  | .rsb => .rsb c sf rn rd op2
  | .add => .add c sf rn rd op2
  | .adc => .adc c sf rn rd op2
  | .sbc => .sbc c sf rn rd op2
  | .rsc => .rsc c sf rn rd op2
  | .orr => .orr c sf rn rd op2
  | .mov => .mov c sf (Reg.bits rn) rd op2
  | .bic => .bic c sf rn rd op2
  | .mvn => .mvn c sf (Reg.bits rn) rd op2

/-- Result, carry and overflow of a row, from the first operand `a`, the second `b` and the shifter carry: the logical
rows by R193, the arithmetic ones exactly. -/
def DpOp.value (o : DpOp) (a b : Word) (shC : Bool) (s : State) : Alu :=
  match o with
  | .and => ⟨a &&& b, shC, flagV s.cpsr⟩
  | .eor => ⟨a ^^^ b, shC, flagV s.cpsr⟩
  | .sub => exactDifference a b 0
  | .rsb => exactDifference b a 0
  | .add => exactSum a b 0
  | .adc => exactSum a b (carryIn s)
  | .sbc => exactDifference a b (borrowIn s)
  | .rsc => exactDifference b a (borrowIn s)
  | .orr => ⟨a ||| b, shC, flagV s.cpsr⟩
  | .mov => ⟨b, shC, flagV s.cpsr⟩
  | .bic => ⟨a &&& ~~~b, shC, flagV s.cpsr⟩
  | .mvn => ⟨~~~b, shC, flagV s.cpsr⟩

/-- The four data-processing instructions that write flags only. -/
inductive CmpOp where
  | tst | teq | cmp | cmn
  deriving DecidableEq, Repr

/-- The instruction of a row; the Rd field is ignored (R214). -/
def CmpOp.instr (o : CmpOp) (c : Cond) (rn rd : Reg) (op2 : Operand2) : Instr :=
  match o with
  | .tst => .tst c rn (Reg.bits rd) op2
  | .teq => .teq c rn (Reg.bits rd) op2
  | .cmp => .cmp c rn (Reg.bits rd) op2
  | .cmn => .cmn c rn (Reg.bits rd) op2

/-- Result, carry and overflow of a row. -/
def CmpOp.value (o : CmpOp) (a b : Word) (shC : Bool) (s : State) : Alu :=
  match o with
  | .tst => ⟨a &&& b, shC, flagV s.cpsr⟩
  | .teq => ⟨a ^^^ b, shC, flagV s.cpsr⟩
  | .cmp => exactDifference a b 0
  | .cmn => exactSum a b 0

/-- The value of the second operand and the shifter carry of a described form (R182, R183). -/
def operand2Value (op2 : Operand2) (s : State) : Word × Bool :=
  match operand2 op2 s with
  | .next p => p
  | .fault _ => (0#32, false)
  | .refused _ => (0#32, false)

/-! ### Memory accesses and block transfers -/

/-- The address of a register's word in a block transfer: `start + 4k` where `k` listed registers are lower (R261,
R262). -/
def slotAddress (p u : Bool) (base : Word) (list : BitVec 16) (r : Reg) : Word :=
  blockStart p u base list + BitVec.ofNat 32 (4 * ((registersOf list).filter (· < r)).length)

/-- The state as a block transfer sees its registers: in the main bank for a user-bank transfer (R268). -/
def transferView (userBank : Bool) (s : State) : State := if userBank then switchBank .main s else s

/-- The physical addresses the stores of an STM go to, each located in the state the stores before it leave. -/
def storeTargets : List Reg → Word → Option (Reg × Word) → State → List Word
  | [], _, _, _ => []
  | r :: rest, addr, pending, s =>
    let here := match locate addr .word true s with
      | .next p => p.1.target.toList
      | .fault _ => []
      | .refused _ => []
    match storeOne r addr pending s with
    | .next s1 => here ++ storeTargets rest (addr + 4#32) none s1
    | .fault _ => here
    | .refused _ => here

/-! ### Conditions on the state -/

/-- Every physical address answers as RAM. -/
def State.PlainRam (s : State) : Prop := ∀ pa, busKindAt s.bus pa = .ram

/-- Every access with the MMU off goes to its own address and answers: no alignment fault is enabled, and the platform
is RAM there. -/
structure State.FlatRam (s : State) : Prop where
  mmuOff : s.mmuOn = false
  alignmentOff : s.cp15.control.getLsbD 1 = false
  ram : s.PlainRam

/-- The next step is a tick that executes the word `w`: nothing is scheduled before it, the core runs, the queue is full
and `w` is its oldest word. -/
def State.AboutToRun (s : State) (w : Word) (newer : Slot) : Prop :=
  s.schedule = [] ∧ s.halted = false ∧ s.pf = .two (.word w) newer

/-- Control bits S and R are not both 1: no access meets the case R97 leaves unpredictable (U3). -/
def State.PermissionsDefined (s : State) : Prop := (s.cp15.control.getLsbD 8 && s.cp15.control.getLsbD 9) = false

/-- The outcome is a next state. -/
def Answers (o : Outcome State) : Prop := ∃ t, o = .next t

end Sys2Proof.Machine
end

