-- ==== Sys2Proof/Certificates/Slice0/Obligations.lean ====
section
/-! DEFINITION. The statements for the provers, by the files of the spec: encoding, the step, the shifter and data
processing, PSR transfer, multiply, memory, single and block transfer, branches and traps, coprocessor 15, exceptions,
reset, and the rules of the whole machine. -/

section

open Sys2Proof Sys2Proof.Machine

/-! ### Encoding (30_encoding.md) -/

/-- Words written out from the formats R132 to R140, each beside the instruction it stands for. -/
def Obligations.SpecWordsDecode : Prop :=
  decodeWord 0xE3A00000#32 = .mov .al false 0#4 0 (.imm 0#4 0#8) ∧
  decodeWord 0xE0900001#32 = .add .al true 0 0 (.shiftImm 1 .lsl 0#5) ∧
  decodeWord 0xE08F0211#32 = .add .al false 15 0 (.shiftReg 1 .lsl 2) ∧
  decodeWord 0xE14F0000#32 = .mrsSpsr .al 0 ∧
  decodeWord 0xE328F20F#32 = .msrCpsrFlgImm .al 2#4 0x0F#8 ∧
  decodeWord 0xE0203291#32 = .mla .al false 0 3 2 1 ∧
  decodeWord 0xE1420091#32 = .swpb .al 2 0 1 ∧
  decodeWord 0xE5724003#32 = .ldrb .al true false true 2 4 (.imm 3#12) ∧
  decodeWord 0xE8BD8010#32 = .ldm .al false true false true 13 0x8010#16 ∧
  decodeWord 0x1AFFFFFC#32 = .b .ne 0xFFFFFC#24 ∧
  decodeWord 0xEF000042#32 = .swi .al 0x42#24 ∧
  decodeWord 0xEE010F10#32 = .mcr .al 0#3 1#4 0 0#3 0#4 ∧
  decodeWord 0xE7F000F0#32 = .undefined011x1 .al 0xF8007#20 0#4 ∧
  decodeWord 0xEE110E10#32 = .undefinedMrcMcrNotP15 .al 0x110#12 14#4 0#3 0#4 ∧
  decodeWord 0xE1000000#32 = .uppTrap .al false 0#2 0#4 0#4 0#12 ∧
  decodeWord 0xF3A00001#32 = .nvAny 0x3A00001#28

/-- The bytes of the word of a well-formed instruction, whatever follows them, decode to that instruction and leave what
follows. -/
def Obligations.DecodeOfEncode : Prop :=
  ∀ (i : Instr) (rest : List Byte), WellFormed i → decode (bytesOfWord (encode i) ++ rest) = .ok (i, rest)

/-- Every 32-bit word is the word of one well-formed instruction, no bit of it dropped (R150), and has the bits that the
opcode table fixes for that instruction. -/
def Obligations.EncodeOfDecode : Prop :=
  ∀ w : Word, WellFormed (decodeWord w) ∧ encode (decodeWord w) = w ∧
    w &&& (decodeWord w).tableRow.1 = (decodeWord w).tableRow.2

/-- The undefined-instruction space (R148 a to d) under a passing condition takes the undefined-instruction trap with
saved PC `A + 4` and vector 0x04 (R286). -/
def Obligations.UndefinedSpaceTraps : Prop :=
  (∀ (w : Word) (c : Cond) (s : State), Cond.ofCode (fieldOf w 28 4) = some c → condHolds s.cpsr c = true →
    (fieldOf w 25 3 = 0b011#3 ∧ flagOf w 4 = true ∨ fieldOf w 25 3 = 0b110#3 ∨
      fieldOf w 24 4 = 0b1110#4 ∧ flagOf w 4 = false ∨
      fieldOf w 24 4 = 0b1110#4 ∧ flagOf w 4 = true ∧ fieldOf w 8 4 ≠ 0b1111#4) →
    execWord w s = .next (raiseException .und (s.pc - 8#32) 0x04#32 s)) ∧
  ∀ (c : Cond) (s : State), condHolds s.cpsr c = true →
    let t := raiseException .und (s.pc - 8#32) 0x04#32 s
    (∀ (hi : BitVec 20) (lo : BitVec 4), exec (.undefined011x1 c hi lo) s = .next t) ∧
    (∀ low25 : BitVec 25, exec (.undefinedLdcStc c low25) s = .next t) ∧
    (∀ (hi : BitVec 19) (lo : BitVec 4), exec (.undefinedCdp c hi lo) s = .next t) ∧
    ∀ (hi : BitVec 12) (cpNum : BitVec 4) (mid : BitVec 3) (lo : BitVec 4),
      exec (.undefinedMrcMcrNotP15 c hi cpNum mid lo) s = .next t

/-! ### The step (40_pipeline_dispatch.md) -/

/-- The predicates of the fifteen conditions, in terms of the four flags (R166). A word whose condition fails, or is NV, has
no effect whatever its class, and its tick is the fetch alone (R147, R165, R168). -/
def Obligations.ConditionsAndFailedConditions : Prop :=
  (∀ (n z c v : Bool) (below : Word),
    let cpsr := withNZCV below n z c v
    condHolds cpsr .eq = z ∧ condHolds cpsr .ne = !z ∧ condHolds cpsr .cs = c ∧ condHolds cpsr .cc = !c ∧
    condHolds cpsr .mi = n ∧ condHolds cpsr .pl = !n ∧ condHolds cpsr .vs = v ∧ condHolds cpsr .vc = !v ∧
    condHolds cpsr .hi = (c && !z) ∧ condHolds cpsr .ls = (!c || z) ∧
    condHolds cpsr .ge = (n == v) ∧ condHolds cpsr .lt = (n != v) ∧
    condHolds cpsr .gt = (!z && n == v) ∧ condHolds cpsr .le = (z || n != v) ∧ condHolds cpsr .al = true) ∧
  (∀ (w : Word) (s : State), (∀ c, Cond.ofCode (fieldOf w 28 4) = some c → condHolds s.cpsr c = false) →
    execWord w s = .next s) ∧
  (∀ (low28 : BitVec 28) (s : State), decodeWord (0b1111#4 ++ low28) = .nvAny low28 ∧
    exec (.nvAny low28) s = .next s) ∧
  ∀ (w : Word) (newer : Slot) (s : State) (m : Slot × State),
    (∀ c, Cond.ofCode (fieldOf w 28 4) = some c → condHolds s.cpsr c = false) → s.AboutToRun w newer →
    s.faultPending = none → fetch s = .next m → step s = .next (advance (.two newer m.1) m.2)

/-- A tick whose oldest slot is a word executes that word's instruction, decoded from its bytes, in the state after the
fetch, and then takes a latched data fault (R160, R165, R167). -/
def Obligations.StepRunsDecodedInstruction : Prop :=
  ∀ (w : Word) (newer : Slot) (i : Instr) (rest : List Byte) (s : State) (m : Slot × State), s.AboutToRun w newer →
    decode (bytesOfWord w) = .ok (i, rest) → fetch s = .next m →
    step s = andThen (exec i (advance (.two newer m.1) m.2)) fun t => .next (takePendingAbort t)

/-- After a flush, with the MMU off and RAM behind the bus, the instruction whose bytes stand at the program counter is
the one the third tick executes, with the program counter 12 above it (R27, R174). -/
def Obligations.ThirdTickRunsTheBytesAtThePc : Prop :=
  ∀ (s : State) (i : Instr) (rest : List Byte), s.schedule = [] → s.halted = false → s.pf = .empty →
    s.faultPending = none → s.FlatRam → s.PcAligned →
    decode (bytesOfWord (s.mem.readWord s.pc.toNat)) = .ok (i, rest) →
    ∃ s2 s3, core.run 2 s = .next s2 ∧ s2.pc = s.pc + 8#32 ∧ s3.pc = s.pc + 12#32 ∧ s3.pf.count = 2 ∧
      (∀ r, r ≠ pcReg → s3.reg r = s.reg r) ∧ s3.cpsr = s.cpsr ∧ s3.mem = s.mem ∧
      step s2 = andThen (exec i s3) fun t => .next (takePendingAbort t)

/-- A popped slot that carries a fetch fault raises a prefetch abort and no word is looked at (R164, R328): saved PC
`A + 4`, vector 0x0C, the fault reported unless it is the synthetic one. -/
def Obligations.FetchFaultAbortsAtPop : Prop :=
  ∀ (f : FaultCode) (newer : Slot) (s : State) (m : Slot × State), s.schedule = [] → s.halted = false →
    s.pf = .two (.fault f) newer → s.faultPending = none → fetch s = .next m →
    ∃ t, step s = .next t ∧ t = raiseException .abt (s.pc - 4#32) 0x0C#32
      (if f.type = .nonMMU then advance (.two newer m.1) m.2
      else (advance (.two newer m.1) m.2).setCp15 { s.cp15 with
        fsr := (f.type.nibble.getD 0#4).setWidth 32 ||| (f.domain.setWidth 32 <<< 4), far := f.va })

/-- A halted tick does nothing, and no action but the two requests and reset ends the halt (R170, R345). -/
def Obligations.HaltedTickDoesNothing : Prop :=
  (∀ s : State, s.halted = true → s.schedule = [] → step s = .next s) ∧
  (∀ (s : State) (rest : List EnvAction), s.halted = true → s.schedule = .tick :: rest →
    step s = .next (s.setSchedule rest)) ∧
  (∀ (s t : State) (a : EnvAction) (rest : List EnvAction), s.halted = true → s.schedule = a :: rest →
    a ≠ .requestFIQ → a ≠ .requestIRQ → a ≠ .reset → step s = .next t → t.halted = true) ∧
  ∀ s : State, (requestFIQ s).halted = false ∧ (requestIRQ s).halted = false ∧ (resetProcedure s).halted = false

/-! ### The shifter (41_data_processing.md R184 to R191) -/

/-- The cases of R185 to R189, form by form. -/
def Obligations.ShifterCases : Prop :=
  ∀ (z : Config.RegShiftZero) (v : Word) (cin : Bool),
    (shiftByImm .lsl v 0#5 cin = (v, cin) ∧ shiftByReg z .lsl v 0#8 cin = (v, cin)) ∧
    shiftByImm .lsr v 0#5 cin = (0#32, v.getLsbD 31) ∧
    shiftByImm .asr v 0#5 cin = (if v.getLsbD 31 then 0xFFFFFFFF#32 else 0#32, v.getLsbD 31) ∧
    shiftByImm .ror v 0#5 cin = ((BitVec.ofBool cin).setWidth 32 <<< 31 ||| v >>> 1, v.getLsbD 0) ∧
    (∀ amt : BitVec 5, amt ≠ 0#5 →
      shiftByImm .lsl v amt cin = (v <<< amt.toNat, v.getLsbD (32 - amt.toNat)) ∧
      shiftByImm .lsr v amt cin = (v >>> amt.toNat, v.getLsbD (amt.toNat - 1)) ∧
      shiftByImm .asr v amt cin = (v.sshiftRight amt.toNat, v.getLsbD (amt.toNat - 1)) ∧
      shiftByImm .ror v amt cin = (v >>> amt.toNat ||| v <<< (32 - amt.toNat), v.getLsbD (amt.toNat - 1))) ∧
    (∀ amt : BitVec 8, 1 ≤ amt.toNat → amt.toNat ≤ 31 →
      shiftByReg z .lsl v amt cin = (v <<< amt.toNat, v.getLsbD (32 - amt.toNat)) ∧
      shiftByReg z .lsr v amt cin = (v >>> amt.toNat, v.getLsbD (amt.toNat - 1)) ∧
      shiftByReg z .asr v amt cin = (v.sshiftRight amt.toNat, v.getLsbD (amt.toNat - 1))) ∧
    (shiftByReg z .lsl v 32#8 cin = (0#32, v.getLsbD 0) ∧ shiftByReg z .lsr v 32#8 cin = (0#32, v.getLsbD 31)) ∧
    (∀ amt : BitVec 8, 33 ≤ amt.toNat →
      shiftByReg z .lsl v amt cin = (0#32, false) ∧ shiftByReg z .lsr v amt cin = (0#32, false)) ∧
    (∀ amt : BitVec 8, 32 ≤ amt.toNat →
      shiftByReg z .asr v amt cin = (if v.getLsbD 31 then 0xFFFFFFFF#32 else 0#32, v.getLsbD 31)) ∧
    (∀ amt : BitVec 8, amt ≠ 0#8 → amt.toNat % 32 = 0 → shiftByReg z .ror v amt cin = (v, v.getLsbD 31)) ∧
    ∀ amt : BitVec 8, amt.toNat % 32 ≠ 0 → shiftByReg z .ror v amt cin =
      (v >>> (amt.toNat % 32) ||| v <<< (32 - amt.toNat % 32), v.getLsbD (amt.toNat % 32 - 1))

/-- What the shifts by a register amount compute, over the integers: one rule for each type, whatever the amount from 1
on, the carry being the last bit shifted out; an amount of 0 by either value of `REG_SHIFT_ZERO` (R190). -/
def Obligations.ShifterIsExact : Prop :=
  (∀ (v : Word) (cin : Bool), (∀ sh, shiftByReg .datasheet sh v 0#8 cin = (v, cin)) ∧
    shiftByReg .literal .lsl v 0#8 cin = (v, cin) ∧ shiftByReg .literal .lsr v 0#8 cin = (0#32, v.getLsbD 31) ∧
    shiftByReg .literal .asr v 0#8 cin = shiftByReg .literal .asr v 32#8 cin ∧
    shiftByReg .literal .ror v 0#8 cin = (v, v.getLsbD 31)) ∧
  ∀ (z : Config.RegShiftZero) (v : Word) (amt : BitVec 8) (cin : Bool), amt ≠ 0#8 →
    (let r := shiftByReg z .lsl v amt cin; r.1.toNat = v.toNat * 2 ^ amt.toNat % 2 ^ 32 ∧ r.2 = (v.toNat * 2 ^ amt.toNat).testBit 32) ∧
    (let r := shiftByReg z .lsr v amt cin; r.1.toNat = v.toNat / 2 ^ amt.toNat ∧ r.2 = v.toNat.testBit (amt.toNat - 1)) ∧
    (let r := shiftByReg z .asr v amt cin; r.1.toInt = v.toInt / 2 ^ amt.toNat ∧ r.2 = decide (v.toInt / 2 ^ (amt.toNat - 1) % 2 = 1)) ∧
    (let r := shiftByReg z .ror v amt cin; (∀ i, i < 32 → r.1.getLsbD i = v.getLsbD ((i + amt.toNat) % 32)) ∧ r.2 = r.1.getLsbD 31)

/-- The operands (R181 to R183, R213, R241, R242, R248): a rotated immediate bit by bit; the program counter, which holds
`A + 12`, as `A + 12` beside a register amount and `A + 8` elsewhere; the address of a single transfer, its offset added or
subtracted modulo 2^32, pre- or post-indexed. -/
def Obligations.OperandsAndAddresses : Prop :=
  (∀ (p u : Bool) (rn rm : Reg) (sh : Shift) (amt : BitVec 5) (imm12 : BitVec 12) (s : State),
    let base := if rn = 15 then s.pc - 4#32 else s.reg rn
    let shifted := (shiftByImm sh (if rm = 15 then s.pc - 4#32 else s.reg rm) amt (flagC s.cpsr)).1
    (transferTarget u rn (.imm imm12) s).toNat =
      (if u then base.toNat + imm12.toNat else base.toNat + 2 ^ 32 - imm12.toNat) % 2 ^ 32 ∧
    (transferTarget u rn (.shifted rm sh amt) s).toNat =
      (if u then base.toNat + shifted.toNat else base.toNat + 2 ^ 32 - shifted.toNat) % 2 ^ 32 ∧
    ∀ off, transferAddress p u rn off s = if p then transferTarget u rn off s else base) ∧
  ∀ s : State,
    (∀ (rot : BitVec 4) (imm8 : BitVec 8), ∃ v, operand2 (.imm rot imm8) s =
        .next (v, if rot = 0#4 then flagC s.cpsr else v.getLsbD 31) ∧
      ∀ i, i < 32 → v.getLsbD i = imm8.getLsbD ((i + 2 * rot.toNat) % 32)) ∧
    (∀ (rm : Reg) (sh : Shift) (amt : BitVec 5), operand2 (.shiftImm rm sh amt) s =
      .next (shiftByImm sh (if rm = 15 then s.pc - 4#32 else s.reg rm) amt (flagC s.cpsr))) ∧
    (∀ (rm rs : Reg) (sh : Shift), operand2 (.shiftReg rm sh rs) s =
      .next (shiftByReg s.params.regShiftZero sh (s.reg rm) ((s.reg rs).extractLsb' 0 8) (flagC s.cpsr))) ∧
    ∀ (rn rm rs : Reg) (sh : Shift) (rot : BitVec 4) (imm8 : BitVec 8) (amt : BitVec 5),
      operand1 (.imm rot imm8) rn s = (if rn = 15 then s.pc - 4#32 else s.reg rn) ∧
      operand1 (.shiftImm rm sh amt) rn s = (if rn = 15 then s.pc - 4#32 else s.reg rn) ∧
      operand1 (.shiftReg rm sh rs) rn s = s.reg rn

/-! ### Data processing (41_data_processing.md R192 to R217) -/

/-- Each of the twelve instructions that write Rd, with Rd not the program counter, completes with its row of R195: the
result, computed over the integers for the arithmetic rows, in Rd; with S the flags of R193 or R194; nothing else. TST,
TEQ, CMP and CMN complete with the flags of their row and nothing else, whatever the Rd field (R214). -/
def Obligations.DataProcessingResults : Prop :=
  (∀ (o : DpOp) (c : Cond) (sf : Bool) (rn rd : Reg) (op2 : Operand2) (s : State), condHolds s.cpsr c = true →
    op2.described = true → rd ≠ 15 →
    let r := o.value (operand1 op2 rn s) (operand2Value op2 s).1 (operand2Value op2 s).2 s
    exec (o.instr c sf rn rd op2) s = .next ((if sf then
      s.setCpsr (withNZCV s.cpsr r.result.msb (r.result == 0#32) r.carry r.overflow) else s).setReg rd r.result)) ∧
  ∀ (o : CmpOp) (c : Cond) (rn rd : Reg) (op2 : Operand2) (s : State), condHolds s.cpsr c = true →
    op2.described = true →
    let r := o.value (operand1 op2 rn s) (operand2Value op2 s).1 (operand2Value op2 s).2 s
    exec (o.instr c rn rd op2) s =
      .next (s.setCpsr (withNZCV s.cpsr r.result.msb (r.result == 0#32) r.carry r.overflow))

/-- Rd the program counter, without S or in a mode without an SPSR: a jump to the result, the queue flushed, the flags as
S asks and no restore (R212, R216). -/
def Obligations.DataProcessingJumps : Prop :=
  ∀ (o : DpOp) (c : Cond) (sf : Bool) (rn : Reg) (op2 : Operand2) (s : State), condHolds s.cpsr c = true →
    op2.described = true → (sf = false ∨ s.hasSpsr = false) →
    let r := o.value (operand1 op2 rn s) (operand2Value op2 s).1 (operand2Value op2 s).2 s
    r.result.extractLsb' 0 2 = 0#2 →
    exec (o.instr c sf rn 15 op2) s = .next (((if sf then
      s.setCpsr (withNZCV s.cpsr r.result.msb (r.result == 0#32) r.carry r.overflow) else s).setReg 15
        r.result).setPf .empty)

/-- Rd the program counter with S in a mode with an SPSR, the return from an exception (R215, R338): the whole SPSR
becomes the status word, the bank of its mode is switched in, the program counter is the result, the queue is empty. -/
def Obligations.DataProcessingReturnsFromException : Prop :=
  ∀ (o : DpOp) (c : Cond) (rn : Reg) (op2 : Operand2) (b : ExcBank) (m : Mode) (s : State),
    condHolds s.cpsr c = true → op2.described = true → s.mode = some b.mode → s.curBank = .exc b →
    Mode.ofBits ((s.spsr.get b).extractLsb' 0 5) = some m →
    let r := o.value (operand1 op2 rn s) (operand2Value op2 s).1 (operand2Value op2 s).2 s
    r.result.extractLsb' 0 2 = 0#2 →
    ∃ t, exec (o.instr c true rn 15 op2) s = .next t ∧ t.cpsr = s.spsr.get b ∧ t.pc = r.result ∧ t.pf = .empty ∧
      t.curBank = m.bank ∧ (∀ r, r ≠ 15 → t.reg r = (switchBank m.bank s).reg r) ∧ t.spsr = s.spsr ∧
      t.cp15 = s.cp15 ∧ t.mem = s.mem ∧ t.tlb = s.tlb ∧ t.cache = s.cache ∧ t.faultPending = s.faultPending

/-- Forms that have no meaning, by the spec's treatment "refuse" (log entry 12), each under a passing condition: a
misaligned program counter written by a data-processing instruction or an LDM (U1), a restored mode number that is no
mode (U2), an access that meets U3, a second operand with bits 4 and 7 both set (U4), R15 as Rm of MSR (U5), a single
transfer with write-back to R15 or R15 as its offset register (U8), an empty list and a base that is the program counter
(U9), a user-bank transfer with write-back (U10). -/
def Obligations.RefusedForms : Prop :=
  (∀ (c : Cond) (p u sb w : Bool) (rn : Reg) (list : BitVec 16) (s : State), condHolds s.cpsr c = true →
    (exec (.ldm c p u sb w rn 0#16) s = .refused .emptyRegisterList ∧
      exec (.stm c p u sb w rn 0#16) s = .refused .emptyRegisterList) ∧
    (list ≠ 0#16 → exec (.ldm c p u sb w 15 list) s = .refused .blockBaseIsPc ∧
      exec (.stm c p u sb w 15 list) s = .refused .blockBaseIsPc) ∧
    (list ≠ 0#16 → rn ≠ 15 → (list.getLsbD 15 = false →
        exec (.ldm c p u true true rn list) s = .refused .userBankWriteBack) ∧
      exec (.stm c p u true true rn list) s = .refused .userBankWriteBack)) ∧
  (∀ (o : DpOp) (c : Cond) (sf : Bool) (rn : Reg) (op2 : Operand2) (s : State), condHolds s.cpsr c = true →
    op2.described = true →
    (o.value (operand1 op2 rn s) (operand2Value op2 s).1 (operand2Value op2 s).2 s).result.extractLsb' 0 2 ≠ 0#2 →
    exec (o.instr c sf rn 15 op2) s = .refused .misalignedPc) ∧
  (∀ (o : DpOp) (c : Cond) (sf : Bool) (rn rd : Reg) (op2 : Operand2) (s : State), condHolds s.cpsr c = true →
    op2.described = false → exec (o.instr c sf rn rd op2) s = .refused .bits4And7) ∧
  (∀ (o : CmpOp) (c : Cond) (rn rd : Reg) (op2 : Operand2) (s : State), condHolds s.cpsr c = true →
    op2.described = false → exec (o.instr c rn rd op2) s = .refused .bits4And7) ∧
  (∀ (c : Cond) (s : State), condHolds s.cpsr c = true →
    exec (.msrCpsr c 15) s = .refused .psrTransferOfPc ∧ exec (.msrCpsrFlgReg c 15) s = .refused .psrTransferOfPc ∧
    exec (.msrSpsr c 15) s = .refused .psrTransferOfPc ∧ exec (.msrSpsrFlgReg c 15) s = .refused .psrTransferOfPc) ∧
  (∀ (c : Cond) (p u w : Bool) (rn rd : Reg) (off : Offset) (s : State), condHolds s.cpsr c = true →
    ((p = false ∨ w = true) ∧ rn = 15 ∨ ∃ sh amt, off = .shifted 15 sh amt) →
    exec (.ldr c p u w rn rd off) s = .refused .transferUsesPc ∧
    exec (.ldrb c p u w rn rd off) s = .refused .transferUsesPc ∧
    exec (.str c p u w rn rd off) s = .refused .transferUsesPc ∧
    exec (.strb c p u w rn rd off) s = .refused .transferUsesPc) ∧
  (∀ (c : Cond) (p u sb w : Bool) (rn : Reg) (list : BitVec 16) (s : State), condHolds s.cpsr c = true → s.FlatRam →
    rn ≠ 15 → list.getLsbD 15 = true →
    let v := s.mem.readWord (slotAddress p u (s.reg rn) list 15 &&& 0xFFFFFFFC#32).toNat
    (v.extractLsb' 0 2 ≠ 0#2 → exec (.ldm c p u sb w rn list) s = .refused .misalignedPc) ∧
    ∀ b, sb = true → s.mode = some b.mode → s.curBank = .exc b →
      Mode.ofBits ((s.spsr.get b).extractLsb' 0 5) = none → v.extractLsb' 0 2 = 0#2 →
      exec (.ldm c p u sb w rn list) s = .refused .illegalMode) ∧
  (∀ (va v : Word) (n : Size) (e : TlbEntry) (s s1 : State), s.mmuOn = true →
    ¬ (n = .word ∧ va.extractLsb' 0 2 ≠ 0#2 ∧ s.cp15.control.getLsbD 1 = true) →
    translate true (accessAddress va n) s = (.ok e, s1) →
    s.cp15.dac.extractLsb' (2 * (e.level1Descriptor.extractLsb' 5 4).toNat) 2 = 0b01#2 → e.ap va = 0b00#2 →
    s.cp15.control.getLsbD 8 = true → s.cp15.control.getLsbD 9 = true →
    memRead va n s = .refused .apZeroWithSAndR ∧ memWrite va n v s = .refused .apZeroWithSAndR ∧
    (n = .word → va = s.pc → fetch s = .refused .apZeroWithSAndR)) ∧
  ∀ (o : DpOp) (c : Cond) (rn : Reg) (op2 : Operand2) (b : ExcBank) (s : State), condHolds s.cpsr c = true →
    op2.described = true → s.mode = some b.mode → s.curBank = .exc b →
    Mode.ofBits ((s.spsr.get b).extractLsb' 0 5) = none →
    (o.value (operand1 op2 rn s) (operand2Value op2 s).1 (operand2Value op2 s).2 s).result.extractLsb' 0 2 = 0#2 →
    exec (o.instr c true rn 15 op2) s = .refused .illegalMode

/-- The frame of the instructions that move registers only: the data-processing instructions with Rd not the program
counter, the compares, MUL, MLA, MRS of the CPSR. Registers but Rd, the status bits below the flags (all of it without
S), memory and every other register stay. -/
def Obligations.RegisterInstructionsFrame : Prop :=
  (∀ (o : DpOp) (c : Cond) (sf : Bool) (rn rd : Reg) (op2 : Operand2) (s t : State), rd ≠ 15 →
    exec (o.instr c sf rn rd op2) s = .next t → RegsSameBut [rd] s t ∧ StatusBelowFlagsSame s t ∧
      (sf = false → t.cpsr = s.cpsr) ∧ MemorySame s t ∧ t = { s with regs := t.regs, cpsr := t.cpsr }) ∧
  (∀ (o : CmpOp) (c : Cond) (rn rd : Reg) (op2 : Operand2) (s t : State), exec (o.instr c rn rd op2) s = .next t →
    RegsSameBut [] s t ∧ StatusBelowFlagsSame s t ∧ MemorySame s t ∧ t = { s with cpsr := t.cpsr }) ∧
  (∀ (c : Cond) (sf : Bool) (rd : Reg) (sbz : BitVec 4) (rs rm : Reg) (s t : State),
    exec (.mul c sf rd sbz rs rm) s = .next t → RegsSameBut [rd] s t ∧ StatusBelowFlagsSame s t ∧
      (sf = false → t.cpsr = s.cpsr) ∧ flagC t.cpsr = flagC s.cpsr ∧ flagV t.cpsr = flagV s.cpsr ∧
      MemorySame s t ∧ t = { s with regs := t.regs, cpsr := t.cpsr }) ∧
  (∀ (c : Cond) (sf : Bool) (rd rn rs rm : Reg) (s t : State), exec (.mla c sf rd rn rs rm) s = .next t →
    RegsSameBut [rd] s t ∧ StatusBelowFlagsSame s t ∧ (sf = false → t.cpsr = s.cpsr) ∧
      flagC t.cpsr = flagC s.cpsr ∧ flagV t.cpsr = flagV s.cpsr ∧ MemorySame s t ∧
      t = { s with regs := t.regs, cpsr := t.cpsr }) ∧
  ∀ (c : Cond) (rd : Reg) (s t : State), exec (.mrsCpsr c rd) s = .next t →
    RegsSameBut [rd] s t ∧ MemorySame s t ∧ t = { s with regs := t.regs }

/-! ### PSR transfer (41_data_processing.md R218 to R224) -/

/-- MRS completes in every mode: the CPSR (R219), the SPSR of the mode's bank, or, in User and System mode, some value
(R220, U6: a free value, log entry 7); Rd the program counter is refused (U5). -/
def Obligations.MrsReadsStatus : Prop :=
  ∀ (c : Cond) (rd : Reg) (s : State), condHolds s.cpsr c = true →
    (rd ≠ 15 → exec (.mrsCpsr c rd) s = .next (s.setReg rd s.cpsr)) ∧
    (∀ b, rd ≠ 15 → s.mode = some b.mode → s.curBank = .exc b →
      exec (.mrsSpsr c rd) s = .next (s.setReg rd (s.spsr.get b))) ∧
    (rd ≠ 15 → s.hasSpsr = false →
      ∃ v, exec (.mrsSpsr c rd) s = .next ((s.setDraws (s.draws + 1)).setReg rd v)) ∧
    exec (.mrsCpsr c 15) s = .refused .psrTransferOfPc ∧ exec (.mrsSpsr c 15) s = .refused .psrTransferOfPc

/-- MSR of the CPSR. The whole word (R221): in a privileged mode all 32 bits with the bank switch, in User mode the flag bits
only; the queue and the program counter stay; a mode number that is no mode is refused (U2). The flag bits (R222): bits
31:28 from the register or the rotated immediate, no other bit, in every mode. -/
def Obligations.MsrWritesStatus : Prop :=
  (∀ (c : Cond) (s : State), condHolds s.cpsr c = true →
    (∀ rm : Reg, rm ≠ 15 → exec (.msrCpsrFlgReg c rm) s =
      .next (s.setCpsr ((s.reg rm).extractLsb' 28 4 ++ s.cpsr.extractLsb' 0 28))) ∧
    ∀ (rot : BitVec 4) (imm8 : BitVec 8), exec (.msrCpsrFlgImm c rot imm8) s =
      .next (s.setCpsr (((imm8.setWidth 32).rotateRight (2 * rot.toNat)).extractLsb' 28 4 ++
        s.cpsr.extractLsb' 0 28))) ∧
  ∀ (c : Cond) (rm : Reg) (s : State), condHolds s.cpsr c = true → rm ≠ 15 →
    (∀ m, s.priv = true → Mode.ofBits ((s.reg rm).extractLsb' 0 5) = some m →
      ∃ t, exec (.msrCpsr c rm) s = .next t ∧ t = (switchBank m.bank s).setCpsr (s.reg rm) ∧ t.curBank = m.bank ∧
        t.pf = s.pf ∧ t.pc = s.pc ∧ t.mem = s.mem ∧ t.cp15 = s.cp15 ∧ t.spsr = s.spsr) ∧
    (s.priv = true → Mode.ofBits ((s.reg rm).extractLsb' 0 5) = none →
      exec (.msrCpsr c rm) s = .refused .illegalMode) ∧
    (s.priv = false → exec (.msrCpsr c rm) s =
      .next (s.setCpsr ((s.reg rm).extractLsb' 28 4 ++ s.cpsr.extractLsb' 0 28)))

/-- MSR of the SPSR (R223), whole, flags from a register and flags from an immediate: only the saved word of the mode's
bank changes; in User and System mode nothing does. -/
def Obligations.MsrWritesSavedStatus : Prop :=
  ∀ (c : Cond) (rm : Reg) (rot : BitVec 4) (imm8 : BitVec 8) (s : State), condHolds s.cpsr c = true → rm ≠ 15 →
    (∀ b, s.mode = some b.mode → s.curBank = .exc b →
      exec (.msrSpsr c rm) s = .next (s.setSpsr b (s.reg rm)) ∧
      exec (.msrSpsrFlgReg c rm) s =
        .next (s.setSpsr b ((s.reg rm).extractLsb' 28 4 ++ (s.spsr.get b).extractLsb' 0 28)) ∧
      exec (.msrSpsrFlgImm c rot imm8) s = .next (s.setSpsr b
        (((imm8.setWidth 32).rotateRight (2 * rot.toNat)).extractLsb' 28 4 ++ (s.spsr.get b).extractLsb' 0 28))) ∧
    (s.hasSpsr = false → exec (.msrSpsr c rm) s = .next s ∧ exec (.msrSpsrFlgReg c rm) s = .next s ∧
      exec (.msrSpsrFlgImm c rot imm8) s = .next s)

/-- An unrecognised pattern, and a coprocessor-15 transfer in User mode, trap through `UPP_VECTOR` with saved PC `A + 4`
and have no other effect (R224, R291). The words of the space with bit 25 clear and bits 4 and 7 both set that are no swap
are split off: the model counts them under U4 and refuses them (log entry 13, DEDUCED). -/
def Obligations.UnrecognisedPatternsTrap : Prop :=
  ∀ (c : Cond) (s : State), condHolds s.cpsr c = true →
    let t := match s.params.uppVector with
      | .softwareInterrupt => raiseException .svc (s.pc - 8#32) 0x08#32 s
      | .undefinedInstruction => raiseException .und (s.pc - 8#32) 0x04#32 s
    (∀ (imm : Bool) (opLow : BitVec 2) (f19 f15 : BitVec 4) (f11 : BitVec 12),
      WellFormed (.uppTrap c imm opLow f19 f15 f11) →
      (imm = true ∨ f11.getLsbD 4 = false ∨ f11.getLsbD 7 = false) ∧
        exec (.uppTrap c imm opLow f19 f15 f11) s = .next t) ∧
    (∀ (opLow : BitVec 2) (f19 f15 f8 : BitVec 4) (f5 : BitVec 2) (f0 : BitVec 4),
      exec (.uppBits4And7 c opLow f19 f15 f8 f5 f0) s = .refused .bits4And7) ∧
    (∀ w : Word, Cond.ofCode (fieldOf w 28 4) = some c → fieldOf w 23 5 = 0b00010#5 → flagOf w 20 = false →
      flagOf w 4 = true → flagOf w 7 = true → ¬ (flagOf w 21 = false ∧ fieldOf w 4 8 = 0b00001001#8) →
      execWord w s = .refused .bits4And7) ∧
    (s.mode = some .user → ∀ (opc1 : BitVec 3) (crn : BitVec 4) (rd : Reg) (opc2 : BitVec 3) (crm : BitVec 4),
      exec (.mrc c opc1 crn rd opc2 crm) s = .next t ∧ exec (.mcr c opc1 crn rd opc2 crm) s = .next t)

/-! ### Multiply (42_multiply.md) -/

/-- MUL and MLA compute the exact product, signed or unsigned alike, narrowed to 32 bits; S sets N and Z and leaves C and V
(R231 to R234, R236); register 15 as an operand is refused (R235). -/
def Obligations.MultiplyIsExact : Prop :=
  ∀ (c : Cond) (sf : Bool) (rd rn rs rm : Reg) (sbz : BitVec 4) (s : State), condHolds s.cpsr c = true →
    let prod := BitVec.ofNat 32 ((s.reg rm).toNat * (s.reg rs).toNat)
    let acc := BitVec.ofNat 32 ((s.reg rm).toNat * (s.reg rs).toNat + (s.reg rn).toNat)
    let put := fun r : Word => (if sf then
      s.setCpsr (withNZCV s.cpsr r.msb (r == 0#32) (flagC s.cpsr) (flagV s.cpsr)) else s).setReg rd r
    (rd ≠ 15 → rs ≠ 15 → rm ≠ 15 → exec (.mul c sf rd sbz rs rm) s = .next (put prod)) ∧
    (rd ≠ 15 → rs ≠ 15 → rm ≠ 15 → rn ≠ 15 → exec (.mla c sf rd rn rs rm) s = .next (put acc)) ∧
    prod = BitVec.ofInt 32 ((s.reg rm).toInt * (s.reg rs).toInt) ∧
    acc = BitVec.ofInt 32 ((s.reg rm).toInt * (s.reg rs).toInt + (s.reg rn).toInt) ∧
    (rd = 15 ∨ rs = 15 ∨ rm = 15 → exec (.mul c sf rd sbz rs rm) s = .refused .multiplyUsesPc) ∧
    (rd = 15 ∨ rs = 15 ∨ rm = 15 ∨ rn = 15 → exec (.mla c sf rd rn rs rm) s = .refused .multiplyUsesPc)

/-! ### Memory (20_memory.md) -/

/-- The alignment check (R66): with control bit 1 set, a word access at an address that is no multiple of 4 answers the
alignment fault and changes nothing, read, write and fetch alike; no byte access ever meets it. -/
def Obligations.AlignmentCheck : Prop :=
  (∀ (va v : Word) (s : State), s.cp15.control.getLsbD 1 = true → va.extractLsb' 0 2 ≠ 0#2 →
    memRead va .word s = .next (.fault ⟨.alignment, 0#4, va⟩, s) ∧
    memWrite va .word v s = .next (some ⟨.alignment, 0#4, va⟩, s)) ∧
  (∀ s : State, s.cp15.control.getLsbD 1 = true → s.pc.extractLsb' 0 2 ≠ 0#2 →
    fetch s = .next (.fault ⟨.alignment, 0#4, s.pc⟩, s)) ∧
  ∀ (va v : Word) (s t : State) (f : FaultCode),
    (memRead va .byte s = .next (.fault f, t) → f.type ≠ .alignment) ∧
    (memWrite va .byte v s = .next (some f, t) → f.type ≠ .alignment)

/-- With the MMU off (R72) an access that passes the alignment check goes to the physical address equal to its virtual
one, low bits of a word address cleared: no translation, no permission check, no change of the TLB; a read is exactly
the bus read. -/
def Obligations.MmuOffReadsThePhysicalBus : Prop :=
  ∀ (va : Word) (n : Size) (s : State), s.mmuOn = false →
    ¬ (n = .word ∧ va.extractLsb' 0 2 ≠ 0#2 ∧ s.cp15.control.getLsbD 1 = true) →
    let a := match n with
      | .byte => va
      | .word => va &&& 0xFFFFFFFC#32
    (∀ isWrite, locate va n isWrite s = .next (.physical a, s)) ∧
    memRead va n s = .next (match busRead a n s with
      | (some v, t) => (.value v, t)
      | (none, t) => (.fault ⟨.nonMMU, 0#4, va⟩, t)) ∧
    (busRead a n s).2.tlb = s.tlb ∧ (busRead a n s).2.tlbNext = s.tlbNext ∧ (busRead a n s).2.cache = s.cache

/-- A TLB hit (R81): the first entry, in increasing slot order, that is not empty and whose address matches is the answer,
and no state changes; where no entry matches there is none, so empty slots answer for no address. -/
def Obligations.TlbHitIsTheFirstMatch : Prop :=
  (∀ (install : Bool) (va : Word) (s : State) (i : Fin 64),
    (s.tlb.get i).addrMask ≠ 0#32 → (s.tlb.get i).addr = va &&& (s.tlb.get i).addrMask →
    (∀ j : Fin 64, j < i → ¬ ((s.tlb.get j).addrMask ≠ 0#32 ∧ (s.tlb.get j).addr = va &&& (s.tlb.get j).addrMask)) →
    translate install va s = (.ok (s.tlb.get i), s)) ∧
  ∀ (va : Word) (t : Vector TlbEntry 64),
    (∀ i : Fin 64, (t.get i).addrMask = 0#32 ∨ (t.get i).addr ≠ va &&& (t.get i).addrMask) → tlbLookup t va = none

/-- The table walk on a TLB miss (R82 to R88, R101): the descriptor addresses, the entry each kind makes, and the fault of
each invalid or unreadable descriptor, which installs nothing. -/
def Obligations.TableWalk : Prop :=
  ∀ (va : Word) (s s1 : State) (r1 : Option Word), tlbLookup s.tlb va = none →
    busRead ((s.cp15.ttb &&& 0xFFFFC000#32) ||| ((va >>> 20) <<< 2)) .word s = (r1, s1) →
    (r1 = none → translate true va s = (.error ⟨.lv1TranslationError, 0#4, va⟩, s1)) ∧
    ∀ l1, r1 = some l1 →
      (l1.extractLsb' 0 2 = 0b00#2 ∨ l1.extractLsb' 0 2 = 0b11#2 →
        translate true va s = (.error ⟨.sectionTranslationFault, 0#4, va⟩, s1)) ∧
      (l1.extractLsb' 0 2 = 0b10#2 → translate true va s =
        (.ok ⟨0xFFF00000#32, va &&& 0xFFF00000#32, l1, 0#32⟩,
          tlbInstall ⟨0xFFF00000#32, va &&& 0xFFF00000#32, l1, 0#32⟩ s1)) ∧
      (l1.extractLsb' 0 2 = 0b01#2 → ∀ (r2 : Option Word) (s2 : State),
        busRead ((l1 &&& 0xFFFFFC00#32) ||| (((va >>> 12) &&& 0xFF#32) <<< 2)) .word s1 = (r2, s2) →
        (r2 = none → translate true va s = (.error ⟨.lv2TranslationError, l1.extractLsb' 5 4, va⟩, s2)) ∧
        ∀ l2, r2 = some l2 →
          (l2.extractLsb' 0 2 = 0b00#2 ∨ l2.extractLsb' 0 2 = 0b11#2 →
            translate true va s = (.error ⟨.pageTranslationFault, l1.extractLsb' 5 4, va⟩, s2)) ∧
          (l2.extractLsb' 0 2 = 0b01#2 → translate true va s =
            (.ok ⟨0xFFFF0000#32, va &&& 0xFFFF0000#32, l1, l2⟩,
              tlbInstall ⟨0xFFFF0000#32, va &&& 0xFFFF0000#32, l1, l2⟩ s2)) ∧
          (l2.extractLsb' 0 2 = 0b10#2 → translate true va s =
            (.ok ⟨0xFFFFF000#32, va &&& 0xFFFFF000#32, l1, l2⟩,
              tlbInstall ⟨0xFFFFF000#32, va &&& 0xFFFFF000#32, l1, l2⟩ s2)))

/-- Round-robin installation (R89): a resolved entry goes into slot `tlbNext`, which advances modulo 64; a probe and a
faulting walk install nothing; of 65 entries installed the 65th takes the slot of the first and the other 64 are in
place. -/
def Obligations.RoundRobinInstallation : Prop :=
  (∀ (va : Word) (s s1 : State) (e : TlbEntry), tlbLookup s.tlb va = none → tableWalk va s = (.ok e, s1) →
    translate true va s = (.ok e, (s1.setTlb (s.tlb.set s.tlbNext e)).setTlbNext (s.tlbNext + 1)) ∧
    translate false va s = (.ok e, s1) ∧ s1.tlb = s.tlb ∧ s1.tlbNext = s.tlbNext) ∧
  (∀ (install : Bool) (va : Word) (s s1 : State) (f : FaultCode), translate install va s = (.error f, s1) →
    s1.tlb = s.tlb ∧ s1.tlbNext = s.tlbNext) ∧
  ∀ (es : Vector TlbEntry 65) (s : State),
    let t := es.toList.foldl (fun s e => tlbInstall e s) s
    t.tlbNext = s.tlbNext + 1 ∧ t.tlb.get s.tlbNext = es.get 64 ∧
      ∀ k : Fin 64, k ≠ 0 → t.tlb.get (s.tlbNext + k) = es.get k.castSucc

/-- The two flushes (R90): after the flush of one address nothing answers for it and every entry that did not cover it is
in its slot; after the flush of all nothing answers for any address; the counter stays. -/
def Obligations.TlbFlushes : Prop :=
  ∀ (v va : Word) (s : State),
    tlbLookup (tlbFlushEntry v s).tlb v = none ∧ tlbLookup (tlbFlushAll s).tlb va = none ∧
    (tlbFlushEntry v s).tlbNext = s.tlbNext ∧ (tlbFlushAll s).tlbNext = s.tlbNext ∧
    ∀ i : Fin 64, (tlbFlushEntry v s).tlb.get i =
      if (s.tlb.get i).addrMask ≠ 0#32 ∧ (s.tlb.get i).addr = v &&& (s.tlb.get i).addrMask then ⟨0#32, 0#32, 0#32, 0#32⟩
      else s.tlb.get i

/-- The physical address of an entry (R91): base bits of the descriptor above the granularity, address bits below. -/
def Obligations.PhysicalAddressOfEntry : Prop :=
  ∀ (e : TlbEntry) (va : Word),
    (e.level1Descriptor.extractLsb' 0 2 = 0b10#2 →
      e.physAddr va = e.level1Descriptor.extractLsb' 20 12 ++ va.extractLsb' 0 20) ∧
    (e.level1Descriptor.extractLsb' 0 2 ≠ 0b10#2 → e.level2Descriptor.extractLsb' 0 2 = 0b01#2 →
      e.physAddr va = e.level2Descriptor.extractLsb' 16 16 ++ va.extractLsb' 0 16) ∧
    (e.level1Descriptor.extractLsb' 0 2 ≠ 0b10#2 → e.level2Descriptor.extractLsb' 0 2 ≠ 0b01#2 →
      e.physAddr va = e.level2Descriptor.extractLsb' 12 20 ++ va.extractLsb' 0 12)

/-- Domain policy and access permission (R94 to R97): who may do what, and the fault of a denial, for every S and R; the one
case left open is the AP field 00 of a Client domain with S and R both 1 (R97, U3). -/
def Obligations.AccessPermission : Prop :=
  ∀ (e : TlbEntry) (va : Word) (isWrite : Bool) (s : State),
    let d := e.level1Descriptor.extractLsb' 5 4
    let policy := s.cp15.dac.extractLsb' (2 * d.toNat) 2
    let section_ := e.level1Descriptor.extractLsb' 0 2 = 0b10#2
    let sysBit := s.cp15.control.getLsbD 8
    let romBit := s.cp15.control.getLsbD 9
    (policy = 0b11#2 → checkAccess e va isWrite s = .permitted) ∧
    (policy = 0b00#2 ∨ policy = 0b10#2 → checkAccess e va isWrite s =
      .denied ⟨if section_ then .sectionDomainFault else .pageDomainFault, d, va⟩) ∧
    (policy = 0b01#2 → ¬ (sysBit = true ∧ romBit = true ∧ e.ap va = 0b00#2) → checkAccess e va isWrite s =
      if e.ap va = 0b11#2 ∨ (e.ap va = 0b10#2 ∧ (s.priv ∨ !isWrite)) ∨ (e.ap va = 0b01#2 ∧ s.priv) ∨
        (e.ap va = 0b00#2 ∧ !isWrite ∧ (romBit ∨ sysBit ∧ s.priv)) then .permitted
      else .denied ⟨if section_ then .sectionPermissionFault else .pagePermissionFault, d, va⟩) ∧
    (policy = 0b01#2 → (sysBit && romBit) = true → e.ap va = 0b00#2 →
      checkAccess e va isWrite s = .unpredictable) ∧
    e.ap va = if section_ then e.level1Descriptor.extractLsb' 10 2
      else e.level2Descriptor.extractLsb' (4 + 2 * (if e.level2Descriptor.extractLsb' 0 2 = 0b01#2 then
        va.extractLsb' 14 2 else va.extractLsb' 10 2).toNat) 2

/-- The cacheable bit of an entry (R99), the set and the tag of an address, the virtual one by the default of
`CACHE_TAG_ADDRESS` (R111). A read that misses the cache in a cacheable region (R113): four word reads of the
16-byte line in increasing order and none after a failing one, the line committed only after all four, into the slot
drawn; a failure changes no line. -/
def Obligations.CacheRefill : Prop :=
  (∀ e : TlbEntry, e.cacheable = if e.level1Descriptor.extractLsb' 0 2 = 0b10#2 then e.level1Descriptor.getLsbD 3
    else e.level2Descriptor.getLsbD 3) ∧
  (∀ a : Word, (setOf a).val = a.toNat / 16 % 4 ∧ (tagOf a).toNat = a.toNat / 64) ∧
  (∀ (q : Config.Params) (a pa : Word), q.cacheTag = .virtual → tagAddress q a pa = a) ∧
  ∀ (e : TlbEntry) (pa va : Word) (n : Size) (s : State), s.cacheOn = true → e.cacheable = true →
    let a := accessAddress va n
    let ta := tagAddress s.params a pa
    let word := fun k : Nat => (pa &&& 0xFFFFFFF0#32) + BitVec.ofNat 32 (4 * k)
    cacheLookup s.cache ta = none →
    (s.PlainRam → a.extractLsb' 0 4 = pa.extractLsb' 0 4 →
      let held := fun k => s.mem.readWord (word k).toNat
      ∃ t, readMapped e pa va n s = (.value (s.mem.readSize pa.toNat n), t) ∧
        t.busTrace = .read (word 3) .word :: .read (word 2) .word :: .read (word 1) .word :: .read (word 0) .word ::
          s.busTrace ∧
        ∃ slot : Fin 128, t.cache =
          putLine s.cache (setOf ta) slot (lineOfWords (tagOf ta) (held 0) (held 1) (held 2) (held 3))) ∧
    ∀ (f : FaultCode) (t : State), readMapped e pa va n s = (.fault f, t) → t.cache = s.cache ∧
      f = ⟨if e.isSection then .sectionLinefetchError else .pageLinefetchError, e.domain, va⟩ ∧
      ∃ k, k < 4 ∧ busKindAt s.bus (word k) = .error ∧
        t.busTrace = (List.range (k + 1)).reverse.map (fun j => .read (word j) .word) ++ s.busTrace

/-- Two identical reads at a cacheable address (R118): the second is served from the cache with the same value and changes
nothing, so it makes no bus call. -/
def Obligations.SecondReadIsServedFromTheCache : Prop :=
  ∀ (va v : Word) (n : Size) (s s0 s1 : State) (e : TlbEntry) (pa : Word), s.cacheOn = true →
    locate va n false s = .next (.mapped e pa, s0) → e.cacheable = true →
    memRead va n s = .next (.value v, s1) → memRead va n s1 = .next (.value v, s1)

/-- `CacheClear()` (R117): every line's enabled bit becomes 0, tag and data stay, nothing else of the machine changes. -/
def Obligations.CacheClearDisablesEveryLine : Prop :=
  ∀ s : State, cacheClear s = { s with cache := (cacheClear s).cache } ∧
    (∀ (set : Fin 4) (slot : Fin 128), (linesOf (cacheClear s).cache set).get slot =
      { (linesOf s.cache set).get slot with enabled := false }) ∧
    ∀ a, cacheLookup (cacheClear s).cache a = none

/-- A store that succeeds is what the next load of the same address gives, for every state of the TLB and of the cache, the
MMU and the cache on or off (R71, R116, R120). -/
def Obligations.LoadAfterStoreGivesTheValueStored : Prop :=
  ∀ (va v x : Word) (n : Size) (s s1 s2 : State), s.mem.wf = true → s.PlainRam →
    memWrite va n v s = .next (none, s1) → memRead va n s1 = .next (.value x, s2) → x = truncateTo n v

/-- The debug read (R347) installs nothing and changes no state of the core: only the record of bus calls and the count
of free draws move; with the MMU off it is the bus read, on a TLB hit the bus read at the entry's address. A word debug
read at an unaligned address reads the aligned word: that is the model's choice (log entry 20, DESIGN CHOICE). -/
def Obligations.DebugReadChangesNothing : Prop :=
  ∀ (va : Word) (n : Size) (s : State),
    (readVirtualDebug va n s).2 = { s with
      busTrace := (readVirtualDebug va n s).2.busTrace, draws := (readVirtualDebug va n s).2.draws } ∧
    (s.mmuOn = false → readVirtualDebug va n s = busRead (accessAddress va n) n s) ∧
    ∀ e, s.mmuOn = true → tlbLookup s.tlb va = some e →
      readVirtualDebug va n s = busRead (e.physAddr (accessAddress va n)) n s

/-! ### Single transfer and swap (43_single_transfer_swap.md) -/

/-- LDR and LDRB with the MMU off and RAM behind the bus: the word at the aligned address rotated (R244), or the byte
zero-extended, in Rd; the base written back where the addressing mode says so, the loaded value winning; one bus read;
nothing else. LDR of the program counter (R243, R250) is a jump to the loaded value, the queue flushed; a misaligned value
is refused (U1), LDRB of the program counter too (U8). -/
def Obligations.LoadsFromFlatRam : Prop :=
  (∀ (c : Cond) (p u w : Bool) (rn : Reg) (off : Offset) (s : State), condHolds s.cpsr c = true → s.FlatRam →
    transferUsesPc p w rn off = false →
    let addr := transferAddress p u rn off s
    let v := (s.mem.readWord (addr &&& 0xFFFFFFFC#32).toNat).rotateRight (8 * (addr.toNat % 4))
    (v.extractLsb' 0 2 = 0#2 → ∃ t, exec (.ldr c p u w rn 15 off) s = .next t ∧ t.pc = v ∧ t.pf = .empty ∧
      t.cpsr = s.cpsr ∧ t.mem = s.mem ∧
      ∀ r, r ≠ 15 → t.reg r = if r = rn ∧ (!p || w) then transferTarget u rn off s else s.reg r) ∧
    (v.extractLsb' 0 2 ≠ 0#2 → exec (.ldr c p u w rn 15 off) s = .refused .misalignedPc) ∧
    exec (.ldrb c p u w rn 15 off) s = .refused .byteLoadToPc) ∧
  ∀ (c : Cond) (p u w : Bool) (rn rd : Reg) (off : Offset) (s : State), condHolds s.cpsr c = true → s.FlatRam →
    transferUsesPc p w rn off = false → rd ≠ 15 →
    let addr := transferAddress p u rn off s
    let aligned := addr &&& 0xFFFFFFFC#32
    (∃ t, exec (.ldr c p u w rn rd off) s = .next t ∧
      t.reg rd = (s.mem.readWord aligned.toNat).rotateRight (8 * (addr.toNat % 4)) ∧
      (∀ r, r ≠ rd → t.reg r = if r = rn ∧ (!p || w) then transferTarget u rn off s else s.reg r) ∧
      t = { s with regs := t.regs, busTrace := .read aligned .word :: s.busTrace }) ∧
    ∃ t, exec (.ldrb c p u w rn rd off) s = .next t ∧
      t.reg rd = (s.mem.readByte addr.toNat).setWidth 32 ∧
      (∀ r, r ≠ rd → t.reg r = if r = rn ∧ (!p || w) then transferTarget u rn off s else s.reg r) ∧
      t = { s with regs := t.regs, busTrace := .read addr .byte :: s.busTrace }

/-- STR and STRB with the MMU off and RAM behind the bus: the register, the program counter as `A + 12`, unrotated at the
aligned address, or its low byte; every other byte stays; the base written back; one bus write (R246, R247, R250). -/
def Obligations.StoresToFlatRam : Prop :=
  ∀ (c : Cond) (p u w : Bool) (rn rd : Reg) (off : Offset) (s : State), condHolds s.cpsr c = true → s.FlatRam →
    s.mem.wf = true → transferUsesPc p w rn off = false →
    let addr := transferAddress p u rn off s
    let aligned := addr &&& 0xFFFFFFFC#32
    let others := fun t : State => (∀ r, t.reg r = if r = rn ∧ (!p || w) then transferTarget u rn off s else s.reg r) ∧
      t = { s with regs := t.regs, mem := t.mem, cache := t.cache, busTrace := t.busTrace }
    (∃ t, exec (.str c p u w rn rd off) s = .next t ∧ t.mem.readWord aligned.toNat = s.reg rd ∧
      (∀ a, OutsideAccess aligned .word a → t.mem.readByte a = s.mem.readByte a) ∧
      t.busTrace = .write aligned .word (s.reg rd) :: s.busTrace ∧ others t) ∧
    ∃ t, exec (.strb c p u w rn rd off) s = .next t ∧
      t.mem.readByte addr.toNat = (s.reg rd).extractLsb' 0 8 ∧
      (∀ a, OutsideAccess addr .byte a → t.mem.readByte a = s.mem.readByte a) ∧
      t.busTrace = .write addr .byte (((s.reg rd).extractLsb' 0 8).setWidth 32) :: s.busTrace ∧ others t

/-- SWP and SWPB with the MMU off and RAM behind the bus: Rd receives what memory held, rotated or zero-extended, memory
what Rm held before, whichever registers coincide; register 15 in any place is refused (R255, R256, U8). -/
def Obligations.SwapsOfFlatRam : Prop :=
  ∀ (c : Cond) (rn rd rm : Reg) (s : State), condHolds s.cpsr c = true → s.FlatRam → s.mem.wf = true →
    let addr := s.reg rn
    let aligned := addr &&& 0xFFFFFFFC#32
    let others := fun t : State => (∀ r, r ≠ rd → t.reg r = s.reg r) ∧
      t = { s with regs := t.regs, mem := t.mem, cache := t.cache, busTrace := t.busTrace }
    (rn ≠ 15 → rd ≠ 15 → rm ≠ 15 →
      (∃ t, exec (.swp c rn rd rm) s = .next t ∧
        t.reg rd = (s.mem.readWord aligned.toNat).rotateRight (8 * (addr.toNat % 4)) ∧
        t.mem.readWord aligned.toNat = s.reg rm ∧
        (∀ a, OutsideAccess aligned .word a → t.mem.readByte a = s.mem.readByte a) ∧
        t.busTrace = .write aligned .word (s.reg rm) :: .read aligned .word :: s.busTrace ∧ others t) ∧
      ∃ t, exec (.swpb c rn rd rm) s = .next t ∧ t.reg rd = (s.mem.readByte addr.toNat).setWidth 32 ∧
        t.mem.readByte addr.toNat = (s.reg rm).extractLsb' 0 8 ∧
        (∀ a, OutsideAccess addr .byte a → t.mem.readByte a = s.mem.readByte a) ∧ others t) ∧
    (rn = 15 ∨ rd = 15 ∨ rm = 15 →
      exec (.swp c rn rd rm) s = .refused .swapUsesPc ∧ exec (.swpb c rn rd rm) s = .refused .swapUsesPc)

/-- What a single transfer or a swap does when its access faults (R249, R257, R336): the fault is latched, the base still
written back, Rd of a load kept; a swap whose read faults makes no write, one whose write faults still loads Rd. -/
def Obligations.FaultingTransfersLatchTheFault : Prop :=
  ∀ (c : Cond) (p u w : Bool) (rn rd rm : Reg) (off : Offset) (f : FaultCode) (s s1 : State),
    condHolds s.cpsr c = true → s.faultPending = none →
    let addr := transferAddress p u rn off s
    let done := if !p || w then (s1.setFaultPending (some f)).setReg rn (transferTarget u rn off s)
      else s1.setFaultPending (some f)
    (transferUsesPc p w rn off = false →
      (memRead addr .word s = .next (.fault f, s1) → exec (.ldr c p u w rn rd off) s = .next done) ∧
      (memRead addr .byte s = .next (.fault f, s1) → rd ≠ 15 → exec (.ldrb c p u w rn rd off) s = .next done) ∧
      (memWrite addr .word (s.reg rd) s = .next (some f, s1) → exec (.str c p u w rn rd off) s = .next done) ∧
      (memWrite addr .byte (s.reg rd) s = .next (some f, s1) → exec (.strb c p u w rn rd off) s = .next done)) ∧
    (rn ≠ 15 → rd ≠ 15 → rm ≠ 15 →
      (memRead (s.reg rn) .word s = .next (.fault f, s1) →
        exec (.swp c rn rd rm) s = .next (s1.setFaultPending (some f))) ∧
      (memRead (s.reg rn) .byte s = .next (.fault f, s1) →
        exec (.swpb c rn rd rm) s = .next (s1.setFaultPending (some f))) ∧
      (∀ v s0, memRead (s.reg rn) .word s = .next (.value v, s0) →
        memWrite (s.reg rn) .word (s.reg rm) s0 = .next (some f, s1) → exec (.swp c rn rd rm) s =
          .next ((s1.setFaultPending (some f)).setReg rd (v.rotateRight (8 * ((s.reg rn).toNat % 4))))) ∧
      ∀ v s0, memRead (s.reg rn) .byte s = .next (.value v, s0) →
        memWrite (s.reg rn) .byte (s.reg rm) s0 = .next (some f, s1) →
        exec (.swpb c rn rd rm) s = .next ((s1.setFaultPending (some f)).setReg rd v))

/-- The frames of the single transfers, for every state of the MMU and the cache. LDR and LDRB with Rd not the program
counter change Rd, the base where it is written back, and what a virtual read may change; no byte of memory. For the
stores every byte outside the bytes of the physical address
the store is located at stays; STR and STRB change no register but a written-back base, SWP and SWPB none but Rd. -/
def Obligations.SingleTransferFrame : Prop :=
  (∀ (c : Cond) (p u w : Bool) (rn rd : Reg) (off : Offset) (s t : State), rd ≠ 15 →
    (exec (.ldr c p u w rn rd off) s = .next t ∨ exec (.ldrb c p u w rn rd off) s = .next t) →
    RegsSameBut (if !p || w then [rd, rn] else [rd]) s t ∧ MemorySame s t ∧
    t = { s with regs := t.regs, tlb := t.tlb, tlbNext := t.tlbNext, cache := t.cache, busTrace := t.busTrace
                 draws := t.draws, faultPending := t.faultPending }) ∧
  ∀ (c : Cond) (p u w : Bool) (rn rd rm : Reg) (off : Offset) (s t : State),
    let rest := t = { s with regs := t.regs, tlb := t.tlb, tlbNext := t.tlbNext, cache := t.cache
                             busTrace := t.busTrace, draws := t.draws, mem := t.mem, halted := t.halted
                             faultPending := t.faultPending }
    (exec (.str c p u w rn rd off) s = .next t → RegsSameBut (if !p || w then [rn] else []) s t ∧ rest ∧
      ∀ q, locate (transferAddress p u rn off s) .word true s = .next q → ∀ a,
        (∀ pa, q.1.target = some pa → OutsideAccess pa .word a) → t.mem.readByte a = s.mem.readByte a) ∧
    (exec (.strb c p u w rn rd off) s = .next t → RegsSameBut (if !p || w then [rn] else []) s t ∧ rest ∧
      ∀ q, locate (transferAddress p u rn off s) .byte true s = .next q → ∀ a,
        (∀ pa, q.1.target = some pa → OutsideAccess pa .byte a) → t.mem.readByte a = s.mem.readByte a) ∧
    (exec (.swp c rn rd rm) s = .next t → RegsSameBut [rd] s t ∧ rest ∧
      ∀ m q, memRead (s.reg rn) .word s = .next m → locate (s.reg rn) .word true m.2 = .next q → ∀ a,
        (∀ pa, q.1.target = some pa → OutsideAccess pa .word a) → t.mem.readByte a = s.mem.readByte a) ∧
    (exec (.swpb c rn rd rm) s = .next t → RegsSameBut [rd] s t ∧ rest ∧
      ∀ m q, memRead (s.reg rn) .byte s = .next m → locate (s.reg rn) .byte true m.2 = .next q → ∀ a,
        (∀ pa, q.1.target = some pa → OutsideAccess pa .byte a) → t.mem.readByte a = s.mem.readByte a)

/-! ### Block transfer (44_block_transfer.md) -/

/-- LDM with the MMU off and RAM behind the bus, no CPSR restore asked: each listed register is loaded from its slot, the
lowest from the lowest address, whatever the mode of addressing (R261 to R263); the base takes the final address with
write-back unless it is loaded (R265); a user-bank transfer loads the main bank's registers and leaves the mode's own
(R268); the program counter in the list is a jump. -/
def Obligations.LdmLoadsFromFlatRam : Prop :=
  ∀ (c : Cond) (p u sb w : Bool) (rn : Reg) (list : BitVec 16) (s : State), condHolds s.cpsr c = true → s.FlatRam →
    list ≠ 0#16 → rn ≠ 15 →
    let userBank := sb && !list.getLsbD 15
    let base := s.reg rn
    let word := fun r => s.mem.readWord (slotAddress p u base list r &&& 0xFFFFFFFC#32).toNat
    (userBank && w) = false →
    (list.getLsbD 15 = true → (sb = false ∨ s.hasSpsr = false) ∧ (word 15).extractLsb' 0 2 = 0#2) →
    ∃ t, exec (.ldm c p u sb w rn list) s = .next t ∧
      (∀ r, r ≠ 15 → (transferView userBank t).reg r = if list.getLsbD r.val then word r
        else if r = rn ∧ w then blockFinal u base list else (transferView userBank s).reg r) ∧
      (if list.getLsbD 15 then t.pc = word 15 ∧ t.pf = .empty else t.pc = s.pc ∧ t.pf = s.pf) ∧
      (userBank = true → s.curBank ≠ .main → t.reg 13 = s.reg 13 ∧ t.reg 14 = s.reg 14 ∧
        (s.curBank = .exc .fiq → ∀ r : Reg, 8 ≤ r → r ≤ 12 → t.reg r = s.reg r)) ∧
      t.curBank = s.curBank ∧ t.cpsr = s.cpsr ∧ t.mem = s.mem ∧ t.faultPending = s.faultPending

/-- LDM with the program counter in the list and S, in a mode with an SPSR (R270, R338): the registers are loaded in the
mode's bank, then the SPSR becomes the status word and its mode's bank is switched in. -/
def Obligations.LdmReturnsFromException : Prop :=
  ∀ (c : Cond) (p u w : Bool) (rn : Reg) (list : BitVec 16) (b : ExcBank) (m : Mode) (s : State),
    condHolds s.cpsr c = true → s.FlatRam → rn ≠ 15 → list.getLsbD 15 = true → s.mode = some b.mode →
    s.curBank = .exc b → Mode.ofBits ((s.spsr.get b).extractLsb' 0 5) = some m →
    let base := s.reg rn
    let word := fun r => s.mem.readWord (slotAddress p u base list r &&& 0xFFFFFFFC#32).toNat
    (word 15).extractLsb' 0 2 = 0#2 →
    ∃ t loaded, exec (.ldm c p u true w rn list) s = .next t ∧ loaded = { s with regs := loaded.regs } ∧
      (∀ r, r ≠ 15 → loaded.reg r = if list.getLsbD r.val then word r
        else if r = rn ∧ w then blockFinal u base list else s.reg r) ∧
      (∀ r, r ≠ 15 → t.reg r = (switchBank m.bank loaded).reg r) ∧ t.pc = word 15 ∧ t.pf = .empty ∧
      t.cpsr = s.spsr.get b ∧ t.curBank = m.bank ∧ t.spsr = s.spsr ∧ t.mem = s.mem

/-- STM with the MMU off and RAM behind the bus: each listed register is stored in its slot, the program counter as
`A + 12`, a written-back base that is not the lowest as its final value (R264, R265), a user-bank transfer the main
bank's registers (R268); every other byte and every register but a written-back base stays. -/
def Obligations.StmStoresToFlatRam : Prop :=
  ∀ (c : Cond) (p u sb w : Bool) (rn : Reg) (list : BitVec 16) (s : State), condHolds s.cpsr c = true → s.FlatRam →
    s.mem.wf = true → list ≠ 0#16 → rn ≠ 15 → (sb && w) = false →
    let base := s.reg rn
    let slot := fun r => slotAddress p u base list r &&& 0xFFFFFFFC#32
    ∃ t, exec (.stm c p u sb w rn list) s = .next t ∧
      (∀ r : Reg, list.getLsbD r.val = true → t.mem.readWord (slot r).toNat =
        if r = rn ∧ w = true ∧ (registersOf list).any (· < rn) then blockFinal u base list
        else (transferView sb s).reg r) ∧
      (∀ a, (∀ r : Reg, list.getLsbD r.val = true → OutsideAccess (slot r) .word a) →
        t.mem.readByte a = s.mem.readByte a) ∧
      (∀ r, t.reg r = if r = rn ∧ w then blockFinal u base list else s.reg r) ∧
      t.curBank = s.curBank ∧ t.cpsr = s.cpsr ∧ t.pf = s.pf ∧ t.faultPending = s.faultPending

/-- Block transfers that fault. An LDM, for every state of the MMU and the cache (R266): the base has its final value with
write-back and its old value without, even where it was in the list; the register whose read faulted and all after it
keep their values, neither the program counter nor the status word is loaded. With the MMU off, a bus error at one
register's slot: the lower listed registers are loaded, no read is made after the faulting one. An STM with the MMU off
over a platform of any kind (R267): every listed register is passed to the bus, the accepted ones are stored, the
write-back is done, and the first refused store is the fault latched (R336). -/
def Obligations.FaultingBlockTransfers : Prop :=
  (∀ (c : Cond) (p u sb w : Bool) (rn : Reg) (list : BitVec 16) (f : FaultCode) (s t : State),
    s.faultPending = none → exec (.ldm c p u sb w rn list) s = .next t → t.faultPending = some f →
    t.reg rn = (if w then blockFinal u (s.reg rn) list else s.reg rn) ∧ t.pc = s.pc ∧ t.pf = s.pf ∧ t.cpsr = s.cpsr ∧
    t.curBank = s.curBank ∧
    ∃ faulting : Reg, list.getLsbD faulting.val = true ∧ f.va = slotAddress p u (s.reg rn) list faulting ∧
      let userBank := sb && !list.getLsbD 15
      ∀ r, r ≠ rn → list.getLsbD r.val = false ∨ faulting ≤ r →
        (transferView userBank t).reg r = (transferView userBank s).reg r) ∧
  (∀ (c : Cond) (p u sb w : Bool) (rn faulting : Reg) (list : BitVec 16) (s : State), condHolds s.cpsr c = true →
    s.mmuOn = false → s.cp15.control.getLsbD 1 = false → s.faultPending = none → rn ≠ 15 →
    let userBank := sb && !list.getLsbD 15
    let slot := fun r => slotAddress p u (s.reg rn) list r &&& 0xFFFFFFFC#32
    (userBank && w) = false → list.getLsbD faulting.val = true → busKindAt s.bus (slot faulting) = .error →
    (∀ r : Reg, list.getLsbD r.val = true → r < faulting →
      busKindAt s.bus (slot r) = .ram ∨ busKindAt s.bus (slot r) = .rom) →
    ∃ t, exec (.ldm c p u sb w rn list) s = .next t ∧
      t.faultPending = some ⟨.nonMMU, 0#4, slotAddress p u (s.reg rn) list faulting⟩ ∧
      (∀ r, r ≠ rn → (transferView userBank t).reg r = if list.getLsbD r.val = true ∧ r < faulting then
        s.mem.readWord (slot r).toNat else (transferView userBank s).reg r) ∧
      t.busTrace = (((registersOf list).filter (· ≤ faulting)).reverse.map fun r => .read (slot r) .word)
        ++ s.busTrace) ∧
  ∀ (c : Cond) (p u sb w : Bool) (rn : Reg) (list : BitVec 16) (s : State), condHolds s.cpsr c = true →
    s.mmuOn = false → s.cp15.control.getLsbD 1 = false → s.faultPending = none → s.mem.wf = true →
    list ≠ 0#16 → rn ≠ 15 → (sb && w) = false →
    let base := s.reg rn
    let slot := fun r => slotAddress p u base list r &&& 0xFFFFFFFC#32
    let value := fun r => if r = rn ∧ w = true ∧ (registersOf list).any (· < rn) then blockFinal u base list
      else (transferView sb s).reg r
    let refuses := fun r => busKindAt s.bus (slot r) = .rom ∨ busKindAt s.bus (slot r) = .error
    ∃ t, exec (.stm c p u sb w rn list) s = .next t ∧
      (∀ r : Reg, list.getLsbD r.val = true → busKindAt s.bus (slot r) = .ram →
        t.mem.readWord (slot r).toNat = value r) ∧
      (∀ a, (∀ r : Reg, list.getLsbD r.val = true → busKindAt s.bus (slot r) = .ram →
        OutsideAccess (slot r) .word a) → t.mem.readByte a = s.mem.readByte a) ∧
      t.busTrace = ((registersOf list).reverse.map fun r => .write (slot r) .word (value r)) ++ s.busTrace ∧
      t.faultPending = ((registersOf list).find? fun r => decide (refuses r)).map
        (fun r => ⟨.nonMMU, 0#4, slotAddress p u base list r⟩) ∧
      (∀ r, t.reg r = if r = rn ∧ w then blockFinal u base list else s.reg r) ∧
      t.curBank = s.curBank ∧ t.cpsr = s.cpsr ∧ t.pf = s.pf

/-- The frame of the block transfers, for every state of the MMU and the cache. No LDM changes a byte of memory, an
unlisted register of R0 to R7 but a written-back base, or, without the program counter in its list, the prefetch queue.
LDM without S, and with the program counter listed in a mode without an SPSR, changes the listed registers and a
written-back base only. A user-bank LDM changes listed registers of the main bank only: the status word, the mode's own
registers and the other banks stay. STM changes no byte outside the words its stores are located at, and no register but
a written-back base. -/
def Obligations.BlockTransferFrame : Prop :=
  ∀ (c : Cond) (p u sb w : Bool) (rn : Reg) (list : BitVec 16) (s t : State),
    (exec (.ldm c p u sb w rn list) s = .next t → MemorySame s t ∧ t.spsr = s.spsr ∧ t.cp15 = s.cp15 ∧
      t.processorId = s.processorId ∧ t.halted = s.halted ∧ t.params = s.params ∧
      (list.getLsbD 15 = false → t.pf = s.pf) ∧
      (∀ r : Reg, r < 8 → list.getLsbD r.val = false → r ≠ rn → t.reg r = s.reg r) ∧
      (sb = false ∨ list.getLsbD 15 = true ∧ s.hasSpsr = false → t.cpsr = s.cpsr ∧ t.curBank = s.curBank ∧
        (∀ r : Reg, list.getLsbD r.val = false → r ≠ rn → t.reg r = s.reg r) ∧
        (w = false → list.getLsbD rn.val = false → t.reg rn = s.reg rn) ∧
        t.bankR13 = s.bankR13 ∧ t.bankR14 = s.bankR14 ∧ t.fiqShadow0 = s.fiqShadow0 ∧
        t.fiqShadow1 = s.fiqShadow1) ∧
      (sb = true → list.getLsbD 15 = false → t.cpsr = s.cpsr ∧ t.curBank = s.curBank ∧
        (∀ r : Reg, list.getLsbD r.val = false → (transferView true t).reg r = (transferView true s).reg r) ∧
        (s.curBank ≠ .main → t.reg 13 = s.reg 13 ∧ t.reg 14 = s.reg 14) ∧
        (s.curBank = .exc .fiq → ∀ r : Reg, 8 ≤ r → r ≤ 12 → t.reg r = s.reg r) ∧
        (∀ b, b ≠ .main → b ≠ s.curBank → t.bankR13.get b = s.bankR13.get b ∧ t.bankR14.get b = s.bankR14.get b) ∧
        (s.curBank ≠ .exc .fiq → t.fiqShadow0 = s.fiqShadow0 ∧ t.fiqShadow1 = s.fiqShadow1))) ∧
    (exec (.stm c p u sb w rn list) s = .next t → t.spsr = s.spsr ∧ t.cp15 = s.cp15 ∧ t.cpsr = s.cpsr ∧
      t.curBank = s.curBank ∧ t.pf = s.pf ∧ t.processorId = s.processorId ∧ t.params = s.params ∧
      RegsSameBut (if w then [rn] else []) s t ∧
      ∀ a, (∀ pa, pa ∈ storeTargets (registersOf list) (blockStart p u (s.reg rn) list)
          (if w && !sb then some (rn, blockFinal u (s.reg rn) list) else none) (transferView sb s) →
        OutsideAccess pa .word a) → t.mem.readByte a = s.mem.readByte a)

/-! ### Branch and software interrupt (45_branch_swi.md) -/

/-- B and BL (R144, R281, R282): the target is `A + 8` plus four times the signed field, modulo 2^32, the queue is flushed;
BL writes `A + 4` to the link register; nothing else changes. -/
def Obligations.BranchesReachTheirTarget : Prop :=
  ∀ (c : Cond) (off24 : BitVec 24) (s : State), condHolds s.cpsr c = true → s.PcAligned →
    let target := BitVec.ofInt 32 ((s.pc.toNat : Int) - 4 + 4 * off24.toInt)
    exec (.b c off24) s = .next ((s.setReg 15 target).setPf .empty) ∧
    exec (.bl c off24) s = .next (((s.setReg 14 (s.pc - 8#32)).setReg 15 target).setPf .empty)

/-- SWI (R284): whatever the comment, the entry with mode Supervisor, saved PC `A + 4` and vector 0x08. -/
def Obligations.SoftwareInterruptEntry : Prop :=
  ∀ (c : Cond) (comment : BitVec 24) (s : State), condHolds s.cpsr c = true →
    ∃ t, exec (.swi c comment) s = .next t ∧ t.spsr.svc = s.cpsr ∧ t.mode = some .supervisor ∧
      t.curBank = .exc .svc ∧ t.cpsr.extractLsb' 5 27 = s.cpsr.extractLsb' 5 27 ∧ t.reg 14 = s.pc - 8#32 ∧
      t.pc = 0x08#32 ∧ t.pf = .empty ∧ t.mem = s.mem ∧ t.cp15 = s.cp15

/-! ### Coprocessor 15 (46_cp15.md) -/

/-- MRC in a privileged mode (R293 to R297, R307): the ID, fault status and fault address registers read, all ones for
every other number, in both variants; Rd alone changes. Rd the program counter is refused (U11). -/
def Obligations.Cp15Reads : Prop :=
  ∀ (c : Cond) (opc1 : BitVec 3) (crn : BitVec 4) (rd : Reg) (opc2 : BitVec 3) (crm : BitVec 4) (s : State),
    condHolds s.cpsr c = true → s.priv = true →
    (rd ≠ 15 → exec (.mrc c opc1 crn rd opc2 crm) s = .next (s.setReg rd
      (if crn = 0#4 then s.processorId else if crn = 5#4 then s.cp15.fsr else if crn = 6#4 then s.cp15.far
        else 0xFFFFFFFF#32))) ∧
    exec (.mrc c opc1 crn 15 opc2 crm) s = .refused .cp15TransferOfPc

/-- MCR in a privileged mode (R298 to R307). In both variants registers 1, 2 and 3 (control, translation table base, domains)
store the value whole, 7 clears the cache, 0, 4 and 9 to 15 are no-operations. ARM710a (`T_VARIANT` false): 5 flushes
the TLB, 6 the entries of an address, 8 is a no-operation. The other variant: 5 and 6 write the fault registers, 8
flushes the TLB, one address or all by `opc2`. Nothing else changes. Rd the program counter is refused (U11). -/
def Obligations.Cp15Writes : Prop :=
  ∀ (c : Cond) (opc1 : BitVec 3) (rd : Reg) (opc2 : BitVec 3) (crm : BitVec 4) (s : State),
    condHolds s.cpsr c = true → s.priv = true →
    let run := fun crn => exec (.mcr c opc1 crn rd opc2 crm) s
    (rd ≠ 15 →
      run 1#4 = .next (s.setCp15 { s.cp15 with control := s.reg rd }) ∧
      run 2#4 = .next (s.setCp15 { s.cp15 with ttb := s.reg rd }) ∧
      run 3#4 = .next (s.setCp15 { s.cp15 with dac := s.reg rd }) ∧
      run 7#4 = .next (cacheClear s) ∧
      (∀ crn : BitVec 4, crn = 0#4 ∨ crn = 4#4 ∨ 9#4 ≤ crn → run crn = .next s) ∧
      (s.params.tVariant = false →
        run 5#4 = .next (tlbFlushAll s) ∧ run 6#4 = .next (tlbFlushEntry (s.reg rd) s) ∧ run 8#4 = .next s) ∧
      (s.params.tVariant = true →
        run 5#4 = .next (s.setCp15 { s.cp15 with fsr := s.reg rd }) ∧
        run 6#4 = .next (s.setCp15 { s.cp15 with far := s.reg rd }) ∧
        run 8#4 = .next (if opc2 = 1#3 then tlbFlushEntry (s.reg rd) s else tlbFlushAll s))) ∧
    ∀ crn : BitVec 4, exec (.mcr c opc1 crn 15 opc2 crm) s = .refused .cp15TransferOfPc

/-! ### Banks and exceptions (10_state.md, 60_exceptions.md) -/

/-- `switchBank` (R25): the exchange of R13 and R14 with the shadow slots, of R8 to R12 on entering and leaving FIQ, a
no-operation for the current bank; away and back restores every live register. -/
def Obligations.SwitchBankExchangesRegisters : Prop :=
  ∀ (nb : Bank) (s : State),
    let t := switchBank nb s
    (nb = s.curBank → t = s) ∧
    (nb ≠ s.curBank → t.curBank = nb ∧ t.reg 13 = s.bankR13.get nb ∧ t.reg 14 = s.bankR14.get nb ∧
      (∀ b, t.bankR13.get b = if b = s.curBank then s.reg 13 else s.bankR13.get b) ∧
      (∀ b, t.bankR14.get b = if b = s.curBank then s.reg 14 else s.bankR14.get b) ∧
      (nb = .exc .fiq → t.r8to12 = s.fiqShadow1 ∧ t.fiqShadow0 = s.r8to12 ∧ t.fiqShadow1 = s.fiqShadow1) ∧
      (s.curBank = .exc .fiq → t.r8to12 = s.fiqShadow0 ∧ t.fiqShadow1 = s.r8to12 ∧ t.fiqShadow0 = s.fiqShadow0) ∧
      (nb ≠ .exc .fiq → s.curBank ≠ .exc .fiq →
        t.r8to12 = s.r8to12 ∧ t.fiqShadow0 = s.fiqShadow0 ∧ t.fiqShadow1 = s.fiqShadow1)) ∧
    (∀ r : Reg, r < 8 ∨ r = 15 → t.reg r = s.reg r) ∧
    t = { s with regs := t.regs, curBank := t.curBank, bankR13 := t.bankR13, bankR14 := t.bankR14
                 fiqShadow0 := t.fiqShadow0, fiqShadow1 := t.fiqShadow1 } ∧
    (∀ r, (switchBank s.curBank t).reg r = s.reg r) ∧ (switchBank s.curBank t).curBank = s.curBank

/-- The entry procedure (R322, R323): the old status word saved in the SPSR of the target mode, the mode field changed and no
other bit of the status word, the bank switched in, the queue flushed, the link register and the program counter set;
nothing else changes. -/
def Obligations.ExceptionEntry : Prop :=
  ∀ (b : ExcBank) (savedPC vectorPC : Word) (s : State),
    let t := raiseException b savedPC vectorPC s
    t.spsr.get b = s.cpsr ∧ (∀ b', b' ≠ b → t.spsr.get b' = s.spsr.get b') ∧
    t.cpsr = s.cpsr.extractLsb' 5 27 ++ b.mode.bits ∧ t.mode = some b.mode ∧ t.curBank = .exc b ∧
    t.reg 14 = savedPC ∧ t.pc = vectorPC ∧ t.pf = .empty ∧
    (∀ r : Reg, r ≠ 14 → r ≠ 15 → t.reg r = (switchBank (.exc b) s).reg r) ∧
    t.bankR13 = (switchBank (.exc b) s).bankR13 ∧ t.bankR14 = (switchBank (.exc b) s).bankR14 ∧
    t.fiqShadow0 = (switchBank (.exc b) s).fiqShadow0 ∧ t.fiqShadow1 = (switchBank (.exc b) s).fiqShadow1 ∧
    t = { s with regs := t.regs, curBank := t.curBank, bankR13 := t.bankR13, bankR14 := t.bankR14, cpsr := t.cpsr
                 fiqShadow0 := t.fiqShadow0, fiqShadow1 := t.fiqShadow1, spsr := t.spsr, pf := t.pf }

/-- The latch and the report (R336, R337): the first fault of an instruction is kept; a report writes type and domain to the
fault status register and the address to the fault address register, the synthetic fault neither (R73). The numbers of
the fault types are those of the table of R100. -/
def Obligations.FaultLatchAndReport : Prop :=
  (FaultType.nibble .alignment = some 1#4 ∧ FaultType.nibble .sectionLinefetchError = some 4#4 ∧
    FaultType.nibble .sectionTranslationFault = some 5#4 ∧ FaultType.nibble .pageLinefetchError = some 6#4 ∧
    FaultType.nibble .pageTranslationFault = some 7#4 ∧ FaultType.nibble .sectionOtherBusError = some 8#4 ∧
    FaultType.nibble .sectionDomainFault = some 9#4 ∧ FaultType.nibble .pageOtherBusError = some 10#4 ∧
    FaultType.nibble .pageDomainFault = some 11#4 ∧ FaultType.nibble .lv1TranslationError = some 12#4 ∧
    FaultType.nibble .sectionPermissionFault = some 13#4 ∧ FaultType.nibble .lv2TranslationError = some 14#4 ∧
    FaultType.nibble .pagePermissionFault = some 15#4 ∧ FaultType.nibble .nonMMU = none) ∧
  ∀ (f g : FaultCode) (s : State),
    (s.faultPending = none → latchDataFault f s = s.setFaultPending (some f)) ∧
    (s.faultPending = some g → latchDataFault f s = s) ∧
    (f.type = .nonMMU → reportFault f s = s) ∧
    (f.type ≠ .nonMMU → ∃ n, f.type.nibble = some n ∧ reportFault f s = s.setCp15 { s.cp15 with
      fsr := (f.domain.setWidth 32 <<< 4) ||| n.setWidth 32, far := f.va })

/-- A data fault latched by an instruction becomes a data abort at the end of its tick (R329, R167): no instruction that
latches one writes the program counter, so the saved PC is `A + 8`; vector 0x10, the fault reported unless synthetic,
the latch empty. -/
def Obligations.DataAbortAtEndOfTick : Prop :=
  ∀ (w : Word) (newer : Slot) (f : FaultCode) (s t : State) (m : Slot × State), s.AboutToRun w newer →
    s.faultPending = none → fetch s = .next m → execWord w (advance (.two newer m.1) m.2) = .next t →
    t.faultPending = some f →
    t.pc = s.pc + 4#32 ∧ step s = .next (raiseException .abt s.pc 0x10#32 (if f.type = .nonMMU then
      t.setFaultPending none else (t.setFaultPending none).setCp15 { t.cp15 with
        fsr := (f.domain.setWidth 32 <<< 4) ||| (f.type.nibble.getD 0#4).setWidth 32, far := f.va }))

/-- The interrupt requests (R330 to R333): refused by their mask bit, where only the halt ends; accepted, the entry with
saved PC `nextPC + 4` and the mask bits set; after an accepted FIQ an IRQ is refused. -/
def Obligations.InterruptRequests : Prop :=
  ∀ s : State,
    let a := s.pc - 4#32 * BitVec.ofNat 32 s.pf.count
    (flagF s.cpsr = true → requestFIQ s = s.setHalted false) ∧
    (flagI s.cpsr = true → requestIRQ s = s.setHalted false) ∧
    (flagF s.cpsr = false → requestFIQ s = (raiseException .fiq (a + 4#32) 0x1C#32 (s.setHalted false)).setCpsr
      (s.cpsr.extractLsb' 8 24 ++ 0b11#2 ++ s.cpsr.extractLsb' 5 1 ++ 0b10001#5)) ∧
    (flagI s.cpsr = false → requestIRQ s = (raiseException .irq (a + 4#32) 0x18#32 (s.setHalted false)).setCpsr
      (s.cpsr.extractLsb' 8 24 ++ 1#1 ++ s.cpsr.extractLsb' 5 2 ++ 0b10010#5)) ∧
    (flagF s.cpsr = false → requestIRQ (requestFIQ s) = requestFIQ s) ∧
    ∀ rest, (s.schedule = .requestFIQ :: rest → step s = .next (requestFIQ (s.setSchedule rest))) ∧
      (s.schedule = .requestIRQ :: rest → step s = .next (requestIRQ (s.setSchedule rest)))

/-- An accepted interrupt and `SUBS pc, lr, #4` (R330, R331, R338) give back the interrupted program: the next instruction
is the one the interrupt came before, and every live register, the status word and the bank are as they were. -/
def Obligations.InterruptAndReturnIsTransparent : Prop :=
  ∀ s : State, s.BankMatches → s.PcAligned →
    let back := fun t : State => ∃ t', execWord 0xE25EF004#32 t = .next t' ∧ t'.nextPC = s.nextPC ∧
      t'.cpsr = s.cpsr ∧ t'.curBank = s.curBank ∧ (∀ r, r ≠ 15 → t'.reg r = s.reg r) ∧ t'.mem = s.mem ∧
      t'.cp15 = s.cp15
    (flagF s.cpsr = false → s.curBank ≠ .exc .fiq → back (requestFIQ s)) ∧
    (flagI s.cpsr = false → s.curBank ≠ .exc .irq → back (requestIRQ s))

/-! ### Reset and the whole machine (70_reset_and_hazards.md, 10_state.md, 60_exceptions.md R342) -/

/-- `reset()` from any state (R360, R46): the entry into Supervisor mode with link and program counter 0, the status word
but for its mode field as it was and saved, control and fault address cleared, TLB and cache emptied, latch and halt
cleared; the registers that R46 calls unspecified are not written but by the bank switch of the entry, nor the SPSRs of
the other banks. The state right after reset has the values R46
states. -/
def Obligations.ResetProcedure : Prop :=
  (let s := State.reset
  s.mode = some .supervisor ∧ s.curBank = .exc .svc ∧ s.pc = 0#32 ∧ s.reg 14 = 0#32 ∧ s.pf = .empty ∧
  s.cp15.control = 0#32 ∧ s.cp15.far = 0#32 ∧ (∀ i : Fin 64, (s.tlb.get i).addrMask = 0#32) ∧ s.tlbNext = 0 ∧
  (∀ (set : Fin 4) (slot : Fin 128), ((linesOf s.cache set).get slot).enabled = false) ∧
  s.faultPending = none ∧ s.halted = false) ∧
  ∀ s : State,
    let t := resetProcedure s
    t.mode = some .supervisor ∧ t.cpsr.extractLsb' 5 27 = s.cpsr.extractLsb' 5 27 ∧ t.curBank = .exc .svc ∧
    t.spsr.svc = s.cpsr ∧ t.reg 14 = 0#32 ∧ t.pc = 0#32 ∧ t.pf = .empty ∧ t.cp15.control = 0#32 ∧ t.cp15.far = 0#32 ∧
    t.cp15.ttb = s.cp15.ttb ∧ t.cp15.dac = s.cp15.dac ∧ t.cp15.fsr = s.cp15.fsr ∧
    (∀ i : Fin 64, t.tlb.get i = ⟨0#32, 0#32, 0#32, 0#32⟩) ∧ t.tlbNext = 0 ∧
    (∀ (set : Fin 4) (slot : Fin 128), ((linesOf t.cache set).get slot).enabled = false) ∧
    t.faultPending = none ∧ t.halted = false ∧ (∀ r : Reg, r < 8 → t.reg r = s.reg r) ∧ t.mem = s.mem ∧
    (let switched := switchBank (.exc .svc) s
    (∀ r : Reg, r ≠ 14 → r ≠ 15 → t.reg r = switched.reg r) ∧ t.bankR13 = switched.bankR13 ∧
      t.bankR14 = switched.bankR14 ∧ t.fiqShadow0 = switched.fiqShadow0 ∧ t.fiqShadow1 = switched.fiqShadow1) ∧
    (∀ b, b ≠ .svc → t.spsr.get b = s.spsr.get b) ∧ t.params = s.params ∧ t.processorId = s.processorId

/-- The invariant of the machine holds right after reset. -/
def Obligations.InvariantAtReset : Prop := State.reset.Inv

/-- Every step keeps the invariant, whatever the environment does: the mode is one of the seven and its bank is live, the
program counter is word-aligned, no fault is latched, the fault status register has its reserved bits zero where
software cannot write it, no set of the cache has two enabled lines with one tag, memory is canonical. -/
def Obligations.StepKeepsInvariant : Prop := ∀ s t : State, s.Inv → step s = .next t → t.Inv

/-- What User mode can do (R341, R342): an instruction executed in User mode leaves coprocessor 15, the parameters, the ID
and every status bit but the flags alone, or it is the entry of a software interrupt or of an undefined instruction. -/
def Obligations.UserModeIsConfined : Prop :=
  ∀ (i : Instr) (s t : State), s.mode = some .user → exec i s = .next t →
    t.cp15 = s.cp15 ∧ t.params = s.params ∧ t.processorId = s.processorId ∧
    ((StatusBelowFlagsSame s t ∧ t.spsr = s.spsr) ∨ t = raiseException .svc (s.pc - 8#32) 0x08#32 s ∨
      t = raiseException .und (s.pc - 8#32) 0x04#32 s)

/-- A tick that starts in User mode ends in User mode with the interrupt masks as they were, or at the vector of an
exception with the User status word saved (R342). -/
def Obligations.UserModeLeavesByExceptionOnly : Prop :=
  ∀ s t : State, s.mode = some .user → s.schedule = [] → s.faultPending = none → step s = .next t →
    StatusBelowFlagsSame s t ∨
    (t.pf = .empty ∧ t.cpsr.extractLsb' 5 23 = s.cpsr.extractLsb' 5 23 ∧
      (t.pc = 0x04#32 ∧ t.mode = some .undefined ∧ t.spsr.und = s.cpsr ∨
        t.pc = 0x08#32 ∧ t.mode = some .supervisor ∧ t.spsr.svc = s.cpsr ∨
        (t.pc = 0x0C#32 ∨ t.pc = 0x10#32) ∧ t.mode = some .abort ∧ t.spsr.abt = s.cpsr))

end
end

