-- ==== Sys2Proof/Laws/State.lean ====
section
/-! SUPPORT. One lemma for each field and each update of State, true by rfl, and the laws of reading a register after an
update. -/

namespace Sys2Proof.Machine

variable (s : State)

@[simp] theorem State.setReg_regs (r : Reg) (v : Word) : (s.setReg r v).regs = s.regs.set r v := rfl
@[simp] theorem State.setReg_curBank (r : Reg) (v : Word) : (s.setReg r v).curBank = s.curBank := rfl
@[simp] theorem State.setReg_bankR13 (r : Reg) (v : Word) : (s.setReg r v).bankR13 = s.bankR13 := rfl
@[simp] theorem State.setReg_bankR14 (r : Reg) (v : Word) : (s.setReg r v).bankR14 = s.bankR14 := rfl
@[simp] theorem State.setReg_fiqShadow0 (r : Reg) (v : Word) : (s.setReg r v).fiqShadow0 = s.fiqShadow0 := rfl
@[simp] theorem State.setReg_fiqShadow1 (r : Reg) (v : Word) : (s.setReg r v).fiqShadow1 = s.fiqShadow1 := rfl
@[simp] theorem State.setReg_cpsr (r : Reg) (v : Word) : (s.setReg r v).cpsr = s.cpsr := rfl
@[simp] theorem State.setReg_spsr (r : Reg) (v : Word) : (s.setReg r v).spsr = s.spsr := rfl
@[simp] theorem State.setReg_cp15 (r : Reg) (v : Word) : (s.setReg r v).cp15 = s.cp15 := rfl
@[simp] theorem State.setReg_tlb (r : Reg) (v : Word) : (s.setReg r v).tlb = s.tlb := rfl
@[simp] theorem State.setReg_tlbNext (r : Reg) (v : Word) : (s.setReg r v).tlbNext = s.tlbNext := rfl
@[simp] theorem State.setReg_cache (r : Reg) (v : Word) : (s.setReg r v).cache = s.cache := rfl
@[simp] theorem State.setReg_pf (r : Reg) (v : Word) : (s.setReg r v).pf = s.pf := rfl
@[simp] theorem State.setReg_faultPending (r : Reg) (v : Word) : (s.setReg r v).faultPending = s.faultPending := rfl
@[simp] theorem State.setReg_halted (r : Reg) (v : Word) : (s.setReg r v).halted = s.halted := rfl
@[simp] theorem State.setReg_params (r : Reg) (v : Word) : (s.setReg r v).params = s.params := rfl
@[simp] theorem State.setReg_processorId (r : Reg) (v : Word) : (s.setReg r v).processorId = s.processorId := rfl
@[simp] theorem State.setReg_mem (r : Reg) (v : Word) : (s.setReg r v).mem = s.mem := rfl
@[simp] theorem State.setReg_bus (r : Reg) (v : Word) : (s.setReg r v).bus = s.bus := rfl
@[simp] theorem State.setReg_busTrace (r : Reg) (v : Word) : (s.setReg r v).busTrace = s.busTrace := rfl
@[simp] theorem State.setReg_schedule (r : Reg) (v : Word) : (s.setReg r v).schedule = s.schedule := rfl
@[simp] theorem State.setReg_draws (r : Reg) (v : Word) : (s.setReg r v).draws = s.draws := rfl

@[simp] theorem State.setCurBank_regs (v : Bank) : (s.setCurBank v).regs = s.regs := rfl
@[simp] theorem State.setCurBank_curBank (v : Bank) : (s.setCurBank v).curBank = v := rfl
@[simp] theorem State.setCurBank_bankR13 (v : Bank) : (s.setCurBank v).bankR13 = s.bankR13 := rfl
@[simp] theorem State.setCurBank_bankR14 (v : Bank) : (s.setCurBank v).bankR14 = s.bankR14 := rfl
@[simp] theorem State.setCurBank_fiqShadow0 (v : Bank) : (s.setCurBank v).fiqShadow0 = s.fiqShadow0 := rfl
@[simp] theorem State.setCurBank_fiqShadow1 (v : Bank) : (s.setCurBank v).fiqShadow1 = s.fiqShadow1 := rfl
@[simp] theorem State.setCurBank_cpsr (v : Bank) : (s.setCurBank v).cpsr = s.cpsr := rfl
@[simp] theorem State.setCurBank_spsr (v : Bank) : (s.setCurBank v).spsr = s.spsr := rfl
@[simp] theorem State.setCurBank_cp15 (v : Bank) : (s.setCurBank v).cp15 = s.cp15 := rfl
@[simp] theorem State.setCurBank_tlb (v : Bank) : (s.setCurBank v).tlb = s.tlb := rfl
@[simp] theorem State.setCurBank_tlbNext (v : Bank) : (s.setCurBank v).tlbNext = s.tlbNext := rfl
@[simp] theorem State.setCurBank_cache (v : Bank) : (s.setCurBank v).cache = s.cache := rfl
@[simp] theorem State.setCurBank_pf (v : Bank) : (s.setCurBank v).pf = s.pf := rfl
@[simp] theorem State.setCurBank_faultPending (v : Bank) : (s.setCurBank v).faultPending = s.faultPending := rfl
@[simp] theorem State.setCurBank_halted (v : Bank) : (s.setCurBank v).halted = s.halted := rfl
@[simp] theorem State.setCurBank_params (v : Bank) : (s.setCurBank v).params = s.params := rfl
@[simp] theorem State.setCurBank_processorId (v : Bank) : (s.setCurBank v).processorId = s.processorId := rfl
@[simp] theorem State.setCurBank_mem (v : Bank) : (s.setCurBank v).mem = s.mem := rfl
@[simp] theorem State.setCurBank_bus (v : Bank) : (s.setCurBank v).bus = s.bus := rfl
@[simp] theorem State.setCurBank_busTrace (v : Bank) : (s.setCurBank v).busTrace = s.busTrace := rfl
@[simp] theorem State.setCurBank_schedule (v : Bank) : (s.setCurBank v).schedule = s.schedule := rfl
@[simp] theorem State.setCurBank_draws (v : Bank) : (s.setCurBank v).draws = s.draws := rfl

@[simp] theorem State.setBankR13_regs (v : BankWords) : (s.setBankR13 v).regs = s.regs := rfl
@[simp] theorem State.setBankR13_curBank (v : BankWords) : (s.setBankR13 v).curBank = s.curBank := rfl
@[simp] theorem State.setBankR13_bankR13 (v : BankWords) : (s.setBankR13 v).bankR13 = v := rfl
@[simp] theorem State.setBankR13_bankR14 (v : BankWords) : (s.setBankR13 v).bankR14 = s.bankR14 := rfl
@[simp] theorem State.setBankR13_fiqShadow0 (v : BankWords) : (s.setBankR13 v).fiqShadow0 = s.fiqShadow0 := rfl
@[simp] theorem State.setBankR13_fiqShadow1 (v : BankWords) : (s.setBankR13 v).fiqShadow1 = s.fiqShadow1 := rfl
@[simp] theorem State.setBankR13_cpsr (v : BankWords) : (s.setBankR13 v).cpsr = s.cpsr := rfl
@[simp] theorem State.setBankR13_spsr (v : BankWords) : (s.setBankR13 v).spsr = s.spsr := rfl
@[simp] theorem State.setBankR13_cp15 (v : BankWords) : (s.setBankR13 v).cp15 = s.cp15 := rfl
@[simp] theorem State.setBankR13_tlb (v : BankWords) : (s.setBankR13 v).tlb = s.tlb := rfl
@[simp] theorem State.setBankR13_tlbNext (v : BankWords) : (s.setBankR13 v).tlbNext = s.tlbNext := rfl
@[simp] theorem State.setBankR13_cache (v : BankWords) : (s.setBankR13 v).cache = s.cache := rfl
@[simp] theorem State.setBankR13_pf (v : BankWords) : (s.setBankR13 v).pf = s.pf := rfl
@[simp] theorem State.setBankR13_faultPending (v : BankWords) : (s.setBankR13 v).faultPending = s.faultPending := rfl
@[simp] theorem State.setBankR13_halted (v : BankWords) : (s.setBankR13 v).halted = s.halted := rfl
@[simp] theorem State.setBankR13_params (v : BankWords) : (s.setBankR13 v).params = s.params := rfl
@[simp] theorem State.setBankR13_processorId (v : BankWords) : (s.setBankR13 v).processorId = s.processorId := rfl
@[simp] theorem State.setBankR13_mem (v : BankWords) : (s.setBankR13 v).mem = s.mem := rfl
@[simp] theorem State.setBankR13_bus (v : BankWords) : (s.setBankR13 v).bus = s.bus := rfl
@[simp] theorem State.setBankR13_busTrace (v : BankWords) : (s.setBankR13 v).busTrace = s.busTrace := rfl
@[simp] theorem State.setBankR13_schedule (v : BankWords) : (s.setBankR13 v).schedule = s.schedule := rfl
@[simp] theorem State.setBankR13_draws (v : BankWords) : (s.setBankR13 v).draws = s.draws := rfl

@[simp] theorem State.setBankR14_regs (v : BankWords) : (s.setBankR14 v).regs = s.regs := rfl
@[simp] theorem State.setBankR14_curBank (v : BankWords) : (s.setBankR14 v).curBank = s.curBank := rfl
@[simp] theorem State.setBankR14_bankR13 (v : BankWords) : (s.setBankR14 v).bankR13 = s.bankR13 := rfl
@[simp] theorem State.setBankR14_bankR14 (v : BankWords) : (s.setBankR14 v).bankR14 = v := rfl
@[simp] theorem State.setBankR14_fiqShadow0 (v : BankWords) : (s.setBankR14 v).fiqShadow0 = s.fiqShadow0 := rfl
@[simp] theorem State.setBankR14_fiqShadow1 (v : BankWords) : (s.setBankR14 v).fiqShadow1 = s.fiqShadow1 := rfl
@[simp] theorem State.setBankR14_cpsr (v : BankWords) : (s.setBankR14 v).cpsr = s.cpsr := rfl
@[simp] theorem State.setBankR14_spsr (v : BankWords) : (s.setBankR14 v).spsr = s.spsr := rfl
@[simp] theorem State.setBankR14_cp15 (v : BankWords) : (s.setBankR14 v).cp15 = s.cp15 := rfl
@[simp] theorem State.setBankR14_tlb (v : BankWords) : (s.setBankR14 v).tlb = s.tlb := rfl
@[simp] theorem State.setBankR14_tlbNext (v : BankWords) : (s.setBankR14 v).tlbNext = s.tlbNext := rfl
@[simp] theorem State.setBankR14_cache (v : BankWords) : (s.setBankR14 v).cache = s.cache := rfl
@[simp] theorem State.setBankR14_pf (v : BankWords) : (s.setBankR14 v).pf = s.pf := rfl
@[simp] theorem State.setBankR14_faultPending (v : BankWords) : (s.setBankR14 v).faultPending = s.faultPending := rfl
@[simp] theorem State.setBankR14_halted (v : BankWords) : (s.setBankR14 v).halted = s.halted := rfl
@[simp] theorem State.setBankR14_params (v : BankWords) : (s.setBankR14 v).params = s.params := rfl
@[simp] theorem State.setBankR14_processorId (v : BankWords) : (s.setBankR14 v).processorId = s.processorId := rfl
@[simp] theorem State.setBankR14_mem (v : BankWords) : (s.setBankR14 v).mem = s.mem := rfl
@[simp] theorem State.setBankR14_bus (v : BankWords) : (s.setBankR14 v).bus = s.bus := rfl
@[simp] theorem State.setBankR14_busTrace (v : BankWords) : (s.setBankR14 v).busTrace = s.busTrace := rfl
@[simp] theorem State.setBankR14_schedule (v : BankWords) : (s.setBankR14 v).schedule = s.schedule := rfl
@[simp] theorem State.setBankR14_draws (v : BankWords) : (s.setBankR14 v).draws = s.draws := rfl

@[simp] theorem State.setFiqShadow0_regs (v : Shadow) : (s.setFiqShadow0 v).regs = s.regs := rfl
@[simp] theorem State.setFiqShadow0_curBank (v : Shadow) : (s.setFiqShadow0 v).curBank = s.curBank := rfl
@[simp] theorem State.setFiqShadow0_bankR13 (v : Shadow) : (s.setFiqShadow0 v).bankR13 = s.bankR13 := rfl
@[simp] theorem State.setFiqShadow0_bankR14 (v : Shadow) : (s.setFiqShadow0 v).bankR14 = s.bankR14 := rfl
@[simp] theorem State.setFiqShadow0_fiqShadow0 (v : Shadow) : (s.setFiqShadow0 v).fiqShadow0 = v := rfl
@[simp] theorem State.setFiqShadow0_fiqShadow1 (v : Shadow) : (s.setFiqShadow0 v).fiqShadow1 = s.fiqShadow1 := rfl
@[simp] theorem State.setFiqShadow0_cpsr (v : Shadow) : (s.setFiqShadow0 v).cpsr = s.cpsr := rfl
@[simp] theorem State.setFiqShadow0_spsr (v : Shadow) : (s.setFiqShadow0 v).spsr = s.spsr := rfl
@[simp] theorem State.setFiqShadow0_cp15 (v : Shadow) : (s.setFiqShadow0 v).cp15 = s.cp15 := rfl
@[simp] theorem State.setFiqShadow0_tlb (v : Shadow) : (s.setFiqShadow0 v).tlb = s.tlb := rfl
@[simp] theorem State.setFiqShadow0_tlbNext (v : Shadow) : (s.setFiqShadow0 v).tlbNext = s.tlbNext := rfl
@[simp] theorem State.setFiqShadow0_cache (v : Shadow) : (s.setFiqShadow0 v).cache = s.cache := rfl
@[simp] theorem State.setFiqShadow0_pf (v : Shadow) : (s.setFiqShadow0 v).pf = s.pf := rfl
@[simp] theorem State.setFiqShadow0_faultPending (v : Shadow) : (s.setFiqShadow0 v).faultPending = s.faultPending := rfl
@[simp] theorem State.setFiqShadow0_halted (v : Shadow) : (s.setFiqShadow0 v).halted = s.halted := rfl
@[simp] theorem State.setFiqShadow0_params (v : Shadow) : (s.setFiqShadow0 v).params = s.params := rfl
@[simp] theorem State.setFiqShadow0_processorId (v : Shadow) : (s.setFiqShadow0 v).processorId = s.processorId := rfl
@[simp] theorem State.setFiqShadow0_mem (v : Shadow) : (s.setFiqShadow0 v).mem = s.mem := rfl
@[simp] theorem State.setFiqShadow0_bus (v : Shadow) : (s.setFiqShadow0 v).bus = s.bus := rfl
@[simp] theorem State.setFiqShadow0_busTrace (v : Shadow) : (s.setFiqShadow0 v).busTrace = s.busTrace := rfl
@[simp] theorem State.setFiqShadow0_schedule (v : Shadow) : (s.setFiqShadow0 v).schedule = s.schedule := rfl
@[simp] theorem State.setFiqShadow0_draws (v : Shadow) : (s.setFiqShadow0 v).draws = s.draws := rfl

@[simp] theorem State.setFiqShadow1_regs (v : Shadow) : (s.setFiqShadow1 v).regs = s.regs := rfl
@[simp] theorem State.setFiqShadow1_curBank (v : Shadow) : (s.setFiqShadow1 v).curBank = s.curBank := rfl
@[simp] theorem State.setFiqShadow1_bankR13 (v : Shadow) : (s.setFiqShadow1 v).bankR13 = s.bankR13 := rfl
@[simp] theorem State.setFiqShadow1_bankR14 (v : Shadow) : (s.setFiqShadow1 v).bankR14 = s.bankR14 := rfl
@[simp] theorem State.setFiqShadow1_fiqShadow0 (v : Shadow) : (s.setFiqShadow1 v).fiqShadow0 = s.fiqShadow0 := rfl
@[simp] theorem State.setFiqShadow1_fiqShadow1 (v : Shadow) : (s.setFiqShadow1 v).fiqShadow1 = v := rfl
@[simp] theorem State.setFiqShadow1_cpsr (v : Shadow) : (s.setFiqShadow1 v).cpsr = s.cpsr := rfl
@[simp] theorem State.setFiqShadow1_spsr (v : Shadow) : (s.setFiqShadow1 v).spsr = s.spsr := rfl
@[simp] theorem State.setFiqShadow1_cp15 (v : Shadow) : (s.setFiqShadow1 v).cp15 = s.cp15 := rfl
@[simp] theorem State.setFiqShadow1_tlb (v : Shadow) : (s.setFiqShadow1 v).tlb = s.tlb := rfl
@[simp] theorem State.setFiqShadow1_tlbNext (v : Shadow) : (s.setFiqShadow1 v).tlbNext = s.tlbNext := rfl
@[simp] theorem State.setFiqShadow1_cache (v : Shadow) : (s.setFiqShadow1 v).cache = s.cache := rfl
@[simp] theorem State.setFiqShadow1_pf (v : Shadow) : (s.setFiqShadow1 v).pf = s.pf := rfl
@[simp] theorem State.setFiqShadow1_faultPending (v : Shadow) : (s.setFiqShadow1 v).faultPending = s.faultPending := rfl
@[simp] theorem State.setFiqShadow1_halted (v : Shadow) : (s.setFiqShadow1 v).halted = s.halted := rfl
@[simp] theorem State.setFiqShadow1_params (v : Shadow) : (s.setFiqShadow1 v).params = s.params := rfl
@[simp] theorem State.setFiqShadow1_processorId (v : Shadow) : (s.setFiqShadow1 v).processorId = s.processorId := rfl
@[simp] theorem State.setFiqShadow1_mem (v : Shadow) : (s.setFiqShadow1 v).mem = s.mem := rfl
@[simp] theorem State.setFiqShadow1_bus (v : Shadow) : (s.setFiqShadow1 v).bus = s.bus := rfl
@[simp] theorem State.setFiqShadow1_busTrace (v : Shadow) : (s.setFiqShadow1 v).busTrace = s.busTrace := rfl
@[simp] theorem State.setFiqShadow1_schedule (v : Shadow) : (s.setFiqShadow1 v).schedule = s.schedule := rfl
@[simp] theorem State.setFiqShadow1_draws (v : Shadow) : (s.setFiqShadow1 v).draws = s.draws := rfl

@[simp] theorem State.setSpsr_regs (b : ExcBank) (v : Word) : (s.setSpsr b v).regs = s.regs := rfl
@[simp] theorem State.setSpsr_curBank (b : ExcBank) (v : Word) : (s.setSpsr b v).curBank = s.curBank := rfl
@[simp] theorem State.setSpsr_bankR13 (b : ExcBank) (v : Word) : (s.setSpsr b v).bankR13 = s.bankR13 := rfl
@[simp] theorem State.setSpsr_bankR14 (b : ExcBank) (v : Word) : (s.setSpsr b v).bankR14 = s.bankR14 := rfl
@[simp] theorem State.setSpsr_fiqShadow0 (b : ExcBank) (v : Word) : (s.setSpsr b v).fiqShadow0 = s.fiqShadow0 := rfl
@[simp] theorem State.setSpsr_fiqShadow1 (b : ExcBank) (v : Word) : (s.setSpsr b v).fiqShadow1 = s.fiqShadow1 := rfl
@[simp] theorem State.setSpsr_cpsr (b : ExcBank) (v : Word) : (s.setSpsr b v).cpsr = s.cpsr := rfl
@[simp] theorem State.setSpsr_spsr (b : ExcBank) (v : Word) : (s.setSpsr b v).spsr = s.spsr.put v b := rfl
@[simp] theorem State.setSpsr_cp15 (b : ExcBank) (v : Word) : (s.setSpsr b v).cp15 = s.cp15 := rfl
@[simp] theorem State.setSpsr_tlb (b : ExcBank) (v : Word) : (s.setSpsr b v).tlb = s.tlb := rfl
@[simp] theorem State.setSpsr_tlbNext (b : ExcBank) (v : Word) : (s.setSpsr b v).tlbNext = s.tlbNext := rfl
@[simp] theorem State.setSpsr_cache (b : ExcBank) (v : Word) : (s.setSpsr b v).cache = s.cache := rfl
@[simp] theorem State.setSpsr_pf (b : ExcBank) (v : Word) : (s.setSpsr b v).pf = s.pf := rfl
@[simp] theorem State.setSpsr_faultPending (b : ExcBank) (v : Word) : (s.setSpsr b v).faultPending = s.faultPending := rfl
@[simp] theorem State.setSpsr_halted (b : ExcBank) (v : Word) : (s.setSpsr b v).halted = s.halted := rfl
@[simp] theorem State.setSpsr_params (b : ExcBank) (v : Word) : (s.setSpsr b v).params = s.params := rfl
@[simp] theorem State.setSpsr_processorId (b : ExcBank) (v : Word) : (s.setSpsr b v).processorId = s.processorId := rfl
@[simp] theorem State.setSpsr_mem (b : ExcBank) (v : Word) : (s.setSpsr b v).mem = s.mem := rfl
@[simp] theorem State.setSpsr_bus (b : ExcBank) (v : Word) : (s.setSpsr b v).bus = s.bus := rfl
@[simp] theorem State.setSpsr_busTrace (b : ExcBank) (v : Word) : (s.setSpsr b v).busTrace = s.busTrace := rfl
@[simp] theorem State.setSpsr_schedule (b : ExcBank) (v : Word) : (s.setSpsr b v).schedule = s.schedule := rfl
@[simp] theorem State.setSpsr_draws (b : ExcBank) (v : Word) : (s.setSpsr b v).draws = s.draws := rfl

@[simp] theorem State.setCpsr_regs (v : Word) : (s.setCpsr v).regs = s.regs := rfl
@[simp] theorem State.setCpsr_curBank (v : Word) : (s.setCpsr v).curBank = s.curBank := rfl
@[simp] theorem State.setCpsr_bankR13 (v : Word) : (s.setCpsr v).bankR13 = s.bankR13 := rfl
@[simp] theorem State.setCpsr_bankR14 (v : Word) : (s.setCpsr v).bankR14 = s.bankR14 := rfl
@[simp] theorem State.setCpsr_fiqShadow0 (v : Word) : (s.setCpsr v).fiqShadow0 = s.fiqShadow0 := rfl
@[simp] theorem State.setCpsr_fiqShadow1 (v : Word) : (s.setCpsr v).fiqShadow1 = s.fiqShadow1 := rfl
@[simp] theorem State.setCpsr_cpsr (v : Word) : (s.setCpsr v).cpsr = v := rfl
@[simp] theorem State.setCpsr_spsr (v : Word) : (s.setCpsr v).spsr = s.spsr := rfl
@[simp] theorem State.setCpsr_cp15 (v : Word) : (s.setCpsr v).cp15 = s.cp15 := rfl
@[simp] theorem State.setCpsr_tlb (v : Word) : (s.setCpsr v).tlb = s.tlb := rfl
@[simp] theorem State.setCpsr_tlbNext (v : Word) : (s.setCpsr v).tlbNext = s.tlbNext := rfl
@[simp] theorem State.setCpsr_cache (v : Word) : (s.setCpsr v).cache = s.cache := rfl
@[simp] theorem State.setCpsr_pf (v : Word) : (s.setCpsr v).pf = s.pf := rfl
@[simp] theorem State.setCpsr_faultPending (v : Word) : (s.setCpsr v).faultPending = s.faultPending := rfl
@[simp] theorem State.setCpsr_halted (v : Word) : (s.setCpsr v).halted = s.halted := rfl
@[simp] theorem State.setCpsr_params (v : Word) : (s.setCpsr v).params = s.params := rfl
@[simp] theorem State.setCpsr_processorId (v : Word) : (s.setCpsr v).processorId = s.processorId := rfl
@[simp] theorem State.setCpsr_mem (v : Word) : (s.setCpsr v).mem = s.mem := rfl
@[simp] theorem State.setCpsr_bus (v : Word) : (s.setCpsr v).bus = s.bus := rfl
@[simp] theorem State.setCpsr_busTrace (v : Word) : (s.setCpsr v).busTrace = s.busTrace := rfl
@[simp] theorem State.setCpsr_schedule (v : Word) : (s.setCpsr v).schedule = s.schedule := rfl
@[simp] theorem State.setCpsr_draws (v : Word) : (s.setCpsr v).draws = s.draws := rfl

@[simp] theorem State.setCp15_regs (v : Cp15) : (s.setCp15 v).regs = s.regs := rfl
@[simp] theorem State.setCp15_curBank (v : Cp15) : (s.setCp15 v).curBank = s.curBank := rfl
@[simp] theorem State.setCp15_bankR13 (v : Cp15) : (s.setCp15 v).bankR13 = s.bankR13 := rfl
@[simp] theorem State.setCp15_bankR14 (v : Cp15) : (s.setCp15 v).bankR14 = s.bankR14 := rfl
@[simp] theorem State.setCp15_fiqShadow0 (v : Cp15) : (s.setCp15 v).fiqShadow0 = s.fiqShadow0 := rfl
@[simp] theorem State.setCp15_fiqShadow1 (v : Cp15) : (s.setCp15 v).fiqShadow1 = s.fiqShadow1 := rfl
@[simp] theorem State.setCp15_cpsr (v : Cp15) : (s.setCp15 v).cpsr = s.cpsr := rfl
@[simp] theorem State.setCp15_spsr (v : Cp15) : (s.setCp15 v).spsr = s.spsr := rfl
@[simp] theorem State.setCp15_cp15 (v : Cp15) : (s.setCp15 v).cp15 = v := rfl
@[simp] theorem State.setCp15_tlb (v : Cp15) : (s.setCp15 v).tlb = s.tlb := rfl
@[simp] theorem State.setCp15_tlbNext (v : Cp15) : (s.setCp15 v).tlbNext = s.tlbNext := rfl
@[simp] theorem State.setCp15_cache (v : Cp15) : (s.setCp15 v).cache = s.cache := rfl
@[simp] theorem State.setCp15_pf (v : Cp15) : (s.setCp15 v).pf = s.pf := rfl
@[simp] theorem State.setCp15_faultPending (v : Cp15) : (s.setCp15 v).faultPending = s.faultPending := rfl
@[simp] theorem State.setCp15_halted (v : Cp15) : (s.setCp15 v).halted = s.halted := rfl
@[simp] theorem State.setCp15_params (v : Cp15) : (s.setCp15 v).params = s.params := rfl
@[simp] theorem State.setCp15_processorId (v : Cp15) : (s.setCp15 v).processorId = s.processorId := rfl
@[simp] theorem State.setCp15_mem (v : Cp15) : (s.setCp15 v).mem = s.mem := rfl
@[simp] theorem State.setCp15_bus (v : Cp15) : (s.setCp15 v).bus = s.bus := rfl
@[simp] theorem State.setCp15_busTrace (v : Cp15) : (s.setCp15 v).busTrace = s.busTrace := rfl
@[simp] theorem State.setCp15_schedule (v : Cp15) : (s.setCp15 v).schedule = s.schedule := rfl
@[simp] theorem State.setCp15_draws (v : Cp15) : (s.setCp15 v).draws = s.draws := rfl

@[simp] theorem State.setTlb_regs (v : Vector TlbEntry 64) : (s.setTlb v).regs = s.regs := rfl
@[simp] theorem State.setTlb_curBank (v : Vector TlbEntry 64) : (s.setTlb v).curBank = s.curBank := rfl
@[simp] theorem State.setTlb_bankR13 (v : Vector TlbEntry 64) : (s.setTlb v).bankR13 = s.bankR13 := rfl
@[simp] theorem State.setTlb_bankR14 (v : Vector TlbEntry 64) : (s.setTlb v).bankR14 = s.bankR14 := rfl
@[simp] theorem State.setTlb_fiqShadow0 (v : Vector TlbEntry 64) : (s.setTlb v).fiqShadow0 = s.fiqShadow0 := rfl
@[simp] theorem State.setTlb_fiqShadow1 (v : Vector TlbEntry 64) : (s.setTlb v).fiqShadow1 = s.fiqShadow1 := rfl
@[simp] theorem State.setTlb_cpsr (v : Vector TlbEntry 64) : (s.setTlb v).cpsr = s.cpsr := rfl
@[simp] theorem State.setTlb_spsr (v : Vector TlbEntry 64) : (s.setTlb v).spsr = s.spsr := rfl
@[simp] theorem State.setTlb_cp15 (v : Vector TlbEntry 64) : (s.setTlb v).cp15 = s.cp15 := rfl
@[simp] theorem State.setTlb_tlb (v : Vector TlbEntry 64) : (s.setTlb v).tlb = v := rfl
@[simp] theorem State.setTlb_tlbNext (v : Vector TlbEntry 64) : (s.setTlb v).tlbNext = s.tlbNext := rfl
@[simp] theorem State.setTlb_cache (v : Vector TlbEntry 64) : (s.setTlb v).cache = s.cache := rfl
@[simp] theorem State.setTlb_pf (v : Vector TlbEntry 64) : (s.setTlb v).pf = s.pf := rfl
@[simp] theorem State.setTlb_faultPending (v : Vector TlbEntry 64) : (s.setTlb v).faultPending = s.faultPending := rfl
@[simp] theorem State.setTlb_halted (v : Vector TlbEntry 64) : (s.setTlb v).halted = s.halted := rfl
@[simp] theorem State.setTlb_params (v : Vector TlbEntry 64) : (s.setTlb v).params = s.params := rfl
@[simp] theorem State.setTlb_processorId (v : Vector TlbEntry 64) : (s.setTlb v).processorId = s.processorId := rfl
@[simp] theorem State.setTlb_mem (v : Vector TlbEntry 64) : (s.setTlb v).mem = s.mem := rfl
@[simp] theorem State.setTlb_bus (v : Vector TlbEntry 64) : (s.setTlb v).bus = s.bus := rfl
@[simp] theorem State.setTlb_busTrace (v : Vector TlbEntry 64) : (s.setTlb v).busTrace = s.busTrace := rfl
@[simp] theorem State.setTlb_schedule (v : Vector TlbEntry 64) : (s.setTlb v).schedule = s.schedule := rfl
@[simp] theorem State.setTlb_draws (v : Vector TlbEntry 64) : (s.setTlb v).draws = s.draws := rfl

@[simp] theorem State.setTlbNext_regs (v : Fin 64) : (s.setTlbNext v).regs = s.regs := rfl
@[simp] theorem State.setTlbNext_curBank (v : Fin 64) : (s.setTlbNext v).curBank = s.curBank := rfl
@[simp] theorem State.setTlbNext_bankR13 (v : Fin 64) : (s.setTlbNext v).bankR13 = s.bankR13 := rfl
@[simp] theorem State.setTlbNext_bankR14 (v : Fin 64) : (s.setTlbNext v).bankR14 = s.bankR14 := rfl
@[simp] theorem State.setTlbNext_fiqShadow0 (v : Fin 64) : (s.setTlbNext v).fiqShadow0 = s.fiqShadow0 := rfl
@[simp] theorem State.setTlbNext_fiqShadow1 (v : Fin 64) : (s.setTlbNext v).fiqShadow1 = s.fiqShadow1 := rfl
@[simp] theorem State.setTlbNext_cpsr (v : Fin 64) : (s.setTlbNext v).cpsr = s.cpsr := rfl
@[simp] theorem State.setTlbNext_spsr (v : Fin 64) : (s.setTlbNext v).spsr = s.spsr := rfl
@[simp] theorem State.setTlbNext_cp15 (v : Fin 64) : (s.setTlbNext v).cp15 = s.cp15 := rfl
@[simp] theorem State.setTlbNext_tlb (v : Fin 64) : (s.setTlbNext v).tlb = s.tlb := rfl
@[simp] theorem State.setTlbNext_tlbNext (v : Fin 64) : (s.setTlbNext v).tlbNext = v := rfl
@[simp] theorem State.setTlbNext_cache (v : Fin 64) : (s.setTlbNext v).cache = s.cache := rfl
@[simp] theorem State.setTlbNext_pf (v : Fin 64) : (s.setTlbNext v).pf = s.pf := rfl
@[simp] theorem State.setTlbNext_faultPending (v : Fin 64) : (s.setTlbNext v).faultPending = s.faultPending := rfl
@[simp] theorem State.setTlbNext_halted (v : Fin 64) : (s.setTlbNext v).halted = s.halted := rfl
@[simp] theorem State.setTlbNext_params (v : Fin 64) : (s.setTlbNext v).params = s.params := rfl
@[simp] theorem State.setTlbNext_processorId (v : Fin 64) : (s.setTlbNext v).processorId = s.processorId := rfl
@[simp] theorem State.setTlbNext_mem (v : Fin 64) : (s.setTlbNext v).mem = s.mem := rfl
@[simp] theorem State.setTlbNext_bus (v : Fin 64) : (s.setTlbNext v).bus = s.bus := rfl
@[simp] theorem State.setTlbNext_busTrace (v : Fin 64) : (s.setTlbNext v).busTrace = s.busTrace := rfl
@[simp] theorem State.setTlbNext_schedule (v : Fin 64) : (s.setTlbNext v).schedule = s.schedule := rfl
@[simp] theorem State.setTlbNext_draws (v : Fin 64) : (s.setTlbNext v).draws = s.draws := rfl

@[simp] theorem State.setCache_regs (v : Cache) : (s.setCache v).regs = s.regs := rfl
@[simp] theorem State.setCache_curBank (v : Cache) : (s.setCache v).curBank = s.curBank := rfl
@[simp] theorem State.setCache_bankR13 (v : Cache) : (s.setCache v).bankR13 = s.bankR13 := rfl
@[simp] theorem State.setCache_bankR14 (v : Cache) : (s.setCache v).bankR14 = s.bankR14 := rfl
@[simp] theorem State.setCache_fiqShadow0 (v : Cache) : (s.setCache v).fiqShadow0 = s.fiqShadow0 := rfl
@[simp] theorem State.setCache_fiqShadow1 (v : Cache) : (s.setCache v).fiqShadow1 = s.fiqShadow1 := rfl
@[simp] theorem State.setCache_cpsr (v : Cache) : (s.setCache v).cpsr = s.cpsr := rfl
@[simp] theorem State.setCache_spsr (v : Cache) : (s.setCache v).spsr = s.spsr := rfl
@[simp] theorem State.setCache_cp15 (v : Cache) : (s.setCache v).cp15 = s.cp15 := rfl
@[simp] theorem State.setCache_tlb (v : Cache) : (s.setCache v).tlb = s.tlb := rfl
@[simp] theorem State.setCache_tlbNext (v : Cache) : (s.setCache v).tlbNext = s.tlbNext := rfl
@[simp] theorem State.setCache_cache (v : Cache) : (s.setCache v).cache = v := rfl
@[simp] theorem State.setCache_pf (v : Cache) : (s.setCache v).pf = s.pf := rfl
@[simp] theorem State.setCache_faultPending (v : Cache) : (s.setCache v).faultPending = s.faultPending := rfl
@[simp] theorem State.setCache_halted (v : Cache) : (s.setCache v).halted = s.halted := rfl
@[simp] theorem State.setCache_params (v : Cache) : (s.setCache v).params = s.params := rfl
@[simp] theorem State.setCache_processorId (v : Cache) : (s.setCache v).processorId = s.processorId := rfl
@[simp] theorem State.setCache_mem (v : Cache) : (s.setCache v).mem = s.mem := rfl
@[simp] theorem State.setCache_bus (v : Cache) : (s.setCache v).bus = s.bus := rfl
@[simp] theorem State.setCache_busTrace (v : Cache) : (s.setCache v).busTrace = s.busTrace := rfl
@[simp] theorem State.setCache_schedule (v : Cache) : (s.setCache v).schedule = s.schedule := rfl
@[simp] theorem State.setCache_draws (v : Cache) : (s.setCache v).draws = s.draws := rfl

@[simp] theorem State.setPf_regs (v : Prefetch) : (s.setPf v).regs = s.regs := rfl
@[simp] theorem State.setPf_curBank (v : Prefetch) : (s.setPf v).curBank = s.curBank := rfl
@[simp] theorem State.setPf_bankR13 (v : Prefetch) : (s.setPf v).bankR13 = s.bankR13 := rfl
@[simp] theorem State.setPf_bankR14 (v : Prefetch) : (s.setPf v).bankR14 = s.bankR14 := rfl
@[simp] theorem State.setPf_fiqShadow0 (v : Prefetch) : (s.setPf v).fiqShadow0 = s.fiqShadow0 := rfl
@[simp] theorem State.setPf_fiqShadow1 (v : Prefetch) : (s.setPf v).fiqShadow1 = s.fiqShadow1 := rfl
@[simp] theorem State.setPf_cpsr (v : Prefetch) : (s.setPf v).cpsr = s.cpsr := rfl
@[simp] theorem State.setPf_spsr (v : Prefetch) : (s.setPf v).spsr = s.spsr := rfl
@[simp] theorem State.setPf_cp15 (v : Prefetch) : (s.setPf v).cp15 = s.cp15 := rfl
@[simp] theorem State.setPf_tlb (v : Prefetch) : (s.setPf v).tlb = s.tlb := rfl
@[simp] theorem State.setPf_tlbNext (v : Prefetch) : (s.setPf v).tlbNext = s.tlbNext := rfl
@[simp] theorem State.setPf_cache (v : Prefetch) : (s.setPf v).cache = s.cache := rfl
@[simp] theorem State.setPf_pf (v : Prefetch) : (s.setPf v).pf = v := rfl
@[simp] theorem State.setPf_faultPending (v : Prefetch) : (s.setPf v).faultPending = s.faultPending := rfl
@[simp] theorem State.setPf_halted (v : Prefetch) : (s.setPf v).halted = s.halted := rfl
@[simp] theorem State.setPf_params (v : Prefetch) : (s.setPf v).params = s.params := rfl
@[simp] theorem State.setPf_processorId (v : Prefetch) : (s.setPf v).processorId = s.processorId := rfl
@[simp] theorem State.setPf_mem (v : Prefetch) : (s.setPf v).mem = s.mem := rfl
@[simp] theorem State.setPf_bus (v : Prefetch) : (s.setPf v).bus = s.bus := rfl
@[simp] theorem State.setPf_busTrace (v : Prefetch) : (s.setPf v).busTrace = s.busTrace := rfl
@[simp] theorem State.setPf_schedule (v : Prefetch) : (s.setPf v).schedule = s.schedule := rfl
@[simp] theorem State.setPf_draws (v : Prefetch) : (s.setPf v).draws = s.draws := rfl

@[simp] theorem State.setFaultPending_regs (v : Option FaultCode) : (s.setFaultPending v).regs = s.regs := rfl
@[simp] theorem State.setFaultPending_curBank (v : Option FaultCode) : (s.setFaultPending v).curBank = s.curBank := rfl
@[simp] theorem State.setFaultPending_bankR13 (v : Option FaultCode) : (s.setFaultPending v).bankR13 = s.bankR13 := rfl
@[simp] theorem State.setFaultPending_bankR14 (v : Option FaultCode) : (s.setFaultPending v).bankR14 = s.bankR14 := rfl
@[simp] theorem State.setFaultPending_fiqShadow0 (v : Option FaultCode) : (s.setFaultPending v).fiqShadow0 = s.fiqShadow0 := rfl
@[simp] theorem State.setFaultPending_fiqShadow1 (v : Option FaultCode) : (s.setFaultPending v).fiqShadow1 = s.fiqShadow1 := rfl
@[simp] theorem State.setFaultPending_cpsr (v : Option FaultCode) : (s.setFaultPending v).cpsr = s.cpsr := rfl
@[simp] theorem State.setFaultPending_spsr (v : Option FaultCode) : (s.setFaultPending v).spsr = s.spsr := rfl
@[simp] theorem State.setFaultPending_cp15 (v : Option FaultCode) : (s.setFaultPending v).cp15 = s.cp15 := rfl
@[simp] theorem State.setFaultPending_tlb (v : Option FaultCode) : (s.setFaultPending v).tlb = s.tlb := rfl
@[simp] theorem State.setFaultPending_tlbNext (v : Option FaultCode) : (s.setFaultPending v).tlbNext = s.tlbNext := rfl
@[simp] theorem State.setFaultPending_cache (v : Option FaultCode) : (s.setFaultPending v).cache = s.cache := rfl
@[simp] theorem State.setFaultPending_pf (v : Option FaultCode) : (s.setFaultPending v).pf = s.pf := rfl
@[simp] theorem State.setFaultPending_faultPending (v : Option FaultCode) : (s.setFaultPending v).faultPending = v := rfl
@[simp] theorem State.setFaultPending_halted (v : Option FaultCode) : (s.setFaultPending v).halted = s.halted := rfl
@[simp] theorem State.setFaultPending_params (v : Option FaultCode) : (s.setFaultPending v).params = s.params := rfl
@[simp] theorem State.setFaultPending_processorId (v : Option FaultCode) : (s.setFaultPending v).processorId = s.processorId := rfl
@[simp] theorem State.setFaultPending_mem (v : Option FaultCode) : (s.setFaultPending v).mem = s.mem := rfl
@[simp] theorem State.setFaultPending_bus (v : Option FaultCode) : (s.setFaultPending v).bus = s.bus := rfl
@[simp] theorem State.setFaultPending_busTrace (v : Option FaultCode) : (s.setFaultPending v).busTrace = s.busTrace := rfl
@[simp] theorem State.setFaultPending_schedule (v : Option FaultCode) : (s.setFaultPending v).schedule = s.schedule := rfl
@[simp] theorem State.setFaultPending_draws (v : Option FaultCode) : (s.setFaultPending v).draws = s.draws := rfl

@[simp] theorem State.setHalted_regs (v : Bool) : (s.setHalted v).regs = s.regs := rfl
@[simp] theorem State.setHalted_curBank (v : Bool) : (s.setHalted v).curBank = s.curBank := rfl
@[simp] theorem State.setHalted_bankR13 (v : Bool) : (s.setHalted v).bankR13 = s.bankR13 := rfl
@[simp] theorem State.setHalted_bankR14 (v : Bool) : (s.setHalted v).bankR14 = s.bankR14 := rfl
@[simp] theorem State.setHalted_fiqShadow0 (v : Bool) : (s.setHalted v).fiqShadow0 = s.fiqShadow0 := rfl
@[simp] theorem State.setHalted_fiqShadow1 (v : Bool) : (s.setHalted v).fiqShadow1 = s.fiqShadow1 := rfl
@[simp] theorem State.setHalted_cpsr (v : Bool) : (s.setHalted v).cpsr = s.cpsr := rfl
@[simp] theorem State.setHalted_spsr (v : Bool) : (s.setHalted v).spsr = s.spsr := rfl
@[simp] theorem State.setHalted_cp15 (v : Bool) : (s.setHalted v).cp15 = s.cp15 := rfl
@[simp] theorem State.setHalted_tlb (v : Bool) : (s.setHalted v).tlb = s.tlb := rfl
@[simp] theorem State.setHalted_tlbNext (v : Bool) : (s.setHalted v).tlbNext = s.tlbNext := rfl
@[simp] theorem State.setHalted_cache (v : Bool) : (s.setHalted v).cache = s.cache := rfl
@[simp] theorem State.setHalted_pf (v : Bool) : (s.setHalted v).pf = s.pf := rfl
@[simp] theorem State.setHalted_faultPending (v : Bool) : (s.setHalted v).faultPending = s.faultPending := rfl
@[simp] theorem State.setHalted_halted (v : Bool) : (s.setHalted v).halted = v := rfl
@[simp] theorem State.setHalted_params (v : Bool) : (s.setHalted v).params = s.params := rfl
@[simp] theorem State.setHalted_processorId (v : Bool) : (s.setHalted v).processorId = s.processorId := rfl
@[simp] theorem State.setHalted_mem (v : Bool) : (s.setHalted v).mem = s.mem := rfl
@[simp] theorem State.setHalted_bus (v : Bool) : (s.setHalted v).bus = s.bus := rfl
@[simp] theorem State.setHalted_busTrace (v : Bool) : (s.setHalted v).busTrace = s.busTrace := rfl
@[simp] theorem State.setHalted_schedule (v : Bool) : (s.setHalted v).schedule = s.schedule := rfl
@[simp] theorem State.setHalted_draws (v : Bool) : (s.setHalted v).draws = s.draws := rfl

@[simp] theorem State.setProcessorId_regs (v : Word) : (s.setProcessorId v).regs = s.regs := rfl
@[simp] theorem State.setProcessorId_curBank (v : Word) : (s.setProcessorId v).curBank = s.curBank := rfl
@[simp] theorem State.setProcessorId_bankR13 (v : Word) : (s.setProcessorId v).bankR13 = s.bankR13 := rfl
@[simp] theorem State.setProcessorId_bankR14 (v : Word) : (s.setProcessorId v).bankR14 = s.bankR14 := rfl
@[simp] theorem State.setProcessorId_fiqShadow0 (v : Word) : (s.setProcessorId v).fiqShadow0 = s.fiqShadow0 := rfl
@[simp] theorem State.setProcessorId_fiqShadow1 (v : Word) : (s.setProcessorId v).fiqShadow1 = s.fiqShadow1 := rfl
@[simp] theorem State.setProcessorId_cpsr (v : Word) : (s.setProcessorId v).cpsr = s.cpsr := rfl
@[simp] theorem State.setProcessorId_spsr (v : Word) : (s.setProcessorId v).spsr = s.spsr := rfl
@[simp] theorem State.setProcessorId_cp15 (v : Word) : (s.setProcessorId v).cp15 = s.cp15 := rfl
@[simp] theorem State.setProcessorId_tlb (v : Word) : (s.setProcessorId v).tlb = s.tlb := rfl
@[simp] theorem State.setProcessorId_tlbNext (v : Word) : (s.setProcessorId v).tlbNext = s.tlbNext := rfl
@[simp] theorem State.setProcessorId_cache (v : Word) : (s.setProcessorId v).cache = s.cache := rfl
@[simp] theorem State.setProcessorId_pf (v : Word) : (s.setProcessorId v).pf = s.pf := rfl
@[simp] theorem State.setProcessorId_faultPending (v : Word) : (s.setProcessorId v).faultPending = s.faultPending := rfl
@[simp] theorem State.setProcessorId_halted (v : Word) : (s.setProcessorId v).halted = s.halted := rfl
@[simp] theorem State.setProcessorId_params (v : Word) : (s.setProcessorId v).params = s.params := rfl
@[simp] theorem State.setProcessorId_processorId (v : Word) : (s.setProcessorId v).processorId = v := rfl
@[simp] theorem State.setProcessorId_mem (v : Word) : (s.setProcessorId v).mem = s.mem := rfl
@[simp] theorem State.setProcessorId_bus (v : Word) : (s.setProcessorId v).bus = s.bus := rfl
@[simp] theorem State.setProcessorId_busTrace (v : Word) : (s.setProcessorId v).busTrace = s.busTrace := rfl
@[simp] theorem State.setProcessorId_schedule (v : Word) : (s.setProcessorId v).schedule = s.schedule := rfl
@[simp] theorem State.setProcessorId_draws (v : Word) : (s.setProcessorId v).draws = s.draws := rfl

@[simp] theorem State.setMem_regs (v : Memory) : (s.setMem v).regs = s.regs := rfl
@[simp] theorem State.setMem_curBank (v : Memory) : (s.setMem v).curBank = s.curBank := rfl
@[simp] theorem State.setMem_bankR13 (v : Memory) : (s.setMem v).bankR13 = s.bankR13 := rfl
@[simp] theorem State.setMem_bankR14 (v : Memory) : (s.setMem v).bankR14 = s.bankR14 := rfl
@[simp] theorem State.setMem_fiqShadow0 (v : Memory) : (s.setMem v).fiqShadow0 = s.fiqShadow0 := rfl
@[simp] theorem State.setMem_fiqShadow1 (v : Memory) : (s.setMem v).fiqShadow1 = s.fiqShadow1 := rfl
@[simp] theorem State.setMem_cpsr (v : Memory) : (s.setMem v).cpsr = s.cpsr := rfl
@[simp] theorem State.setMem_spsr (v : Memory) : (s.setMem v).spsr = s.spsr := rfl
@[simp] theorem State.setMem_cp15 (v : Memory) : (s.setMem v).cp15 = s.cp15 := rfl
@[simp] theorem State.setMem_tlb (v : Memory) : (s.setMem v).tlb = s.tlb := rfl
@[simp] theorem State.setMem_tlbNext (v : Memory) : (s.setMem v).tlbNext = s.tlbNext := rfl
@[simp] theorem State.setMem_cache (v : Memory) : (s.setMem v).cache = s.cache := rfl
@[simp] theorem State.setMem_pf (v : Memory) : (s.setMem v).pf = s.pf := rfl
@[simp] theorem State.setMem_faultPending (v : Memory) : (s.setMem v).faultPending = s.faultPending := rfl
@[simp] theorem State.setMem_halted (v : Memory) : (s.setMem v).halted = s.halted := rfl
@[simp] theorem State.setMem_params (v : Memory) : (s.setMem v).params = s.params := rfl
@[simp] theorem State.setMem_processorId (v : Memory) : (s.setMem v).processorId = s.processorId := rfl
@[simp] theorem State.setMem_mem (v : Memory) : (s.setMem v).mem = v := rfl
@[simp] theorem State.setMem_bus (v : Memory) : (s.setMem v).bus = s.bus := rfl
@[simp] theorem State.setMem_busTrace (v : Memory) : (s.setMem v).busTrace = s.busTrace := rfl
@[simp] theorem State.setMem_schedule (v : Memory) : (s.setMem v).schedule = s.schedule := rfl
@[simp] theorem State.setMem_draws (v : Memory) : (s.setMem v).draws = s.draws := rfl

@[simp] theorem State.setBusTrace_regs (v : List BusCall) : (s.setBusTrace v).regs = s.regs := rfl
@[simp] theorem State.setBusTrace_curBank (v : List BusCall) : (s.setBusTrace v).curBank = s.curBank := rfl
@[simp] theorem State.setBusTrace_bankR13 (v : List BusCall) : (s.setBusTrace v).bankR13 = s.bankR13 := rfl
@[simp] theorem State.setBusTrace_bankR14 (v : List BusCall) : (s.setBusTrace v).bankR14 = s.bankR14 := rfl
@[simp] theorem State.setBusTrace_fiqShadow0 (v : List BusCall) : (s.setBusTrace v).fiqShadow0 = s.fiqShadow0 := rfl
@[simp] theorem State.setBusTrace_fiqShadow1 (v : List BusCall) : (s.setBusTrace v).fiqShadow1 = s.fiqShadow1 := rfl
@[simp] theorem State.setBusTrace_cpsr (v : List BusCall) : (s.setBusTrace v).cpsr = s.cpsr := rfl
@[simp] theorem State.setBusTrace_spsr (v : List BusCall) : (s.setBusTrace v).spsr = s.spsr := rfl
@[simp] theorem State.setBusTrace_cp15 (v : List BusCall) : (s.setBusTrace v).cp15 = s.cp15 := rfl
@[simp] theorem State.setBusTrace_tlb (v : List BusCall) : (s.setBusTrace v).tlb = s.tlb := rfl
@[simp] theorem State.setBusTrace_tlbNext (v : List BusCall) : (s.setBusTrace v).tlbNext = s.tlbNext := rfl
@[simp] theorem State.setBusTrace_cache (v : List BusCall) : (s.setBusTrace v).cache = s.cache := rfl
@[simp] theorem State.setBusTrace_pf (v : List BusCall) : (s.setBusTrace v).pf = s.pf := rfl
@[simp] theorem State.setBusTrace_faultPending (v : List BusCall) : (s.setBusTrace v).faultPending = s.faultPending := rfl
@[simp] theorem State.setBusTrace_halted (v : List BusCall) : (s.setBusTrace v).halted = s.halted := rfl
@[simp] theorem State.setBusTrace_params (v : List BusCall) : (s.setBusTrace v).params = s.params := rfl
@[simp] theorem State.setBusTrace_processorId (v : List BusCall) : (s.setBusTrace v).processorId = s.processorId := rfl
@[simp] theorem State.setBusTrace_mem (v : List BusCall) : (s.setBusTrace v).mem = s.mem := rfl
@[simp] theorem State.setBusTrace_bus (v : List BusCall) : (s.setBusTrace v).bus = s.bus := rfl
@[simp] theorem State.setBusTrace_busTrace (v : List BusCall) : (s.setBusTrace v).busTrace = v := rfl
@[simp] theorem State.setBusTrace_schedule (v : List BusCall) : (s.setBusTrace v).schedule = s.schedule := rfl
@[simp] theorem State.setBusTrace_draws (v : List BusCall) : (s.setBusTrace v).draws = s.draws := rfl

@[simp] theorem State.setSchedule_regs (v : List EnvAction) : (s.setSchedule v).regs = s.regs := rfl
@[simp] theorem State.setSchedule_curBank (v : List EnvAction) : (s.setSchedule v).curBank = s.curBank := rfl
@[simp] theorem State.setSchedule_bankR13 (v : List EnvAction) : (s.setSchedule v).bankR13 = s.bankR13 := rfl
@[simp] theorem State.setSchedule_bankR14 (v : List EnvAction) : (s.setSchedule v).bankR14 = s.bankR14 := rfl
@[simp] theorem State.setSchedule_fiqShadow0 (v : List EnvAction) : (s.setSchedule v).fiqShadow0 = s.fiqShadow0 := rfl
@[simp] theorem State.setSchedule_fiqShadow1 (v : List EnvAction) : (s.setSchedule v).fiqShadow1 = s.fiqShadow1 := rfl
@[simp] theorem State.setSchedule_cpsr (v : List EnvAction) : (s.setSchedule v).cpsr = s.cpsr := rfl
@[simp] theorem State.setSchedule_spsr (v : List EnvAction) : (s.setSchedule v).spsr = s.spsr := rfl
@[simp] theorem State.setSchedule_cp15 (v : List EnvAction) : (s.setSchedule v).cp15 = s.cp15 := rfl
@[simp] theorem State.setSchedule_tlb (v : List EnvAction) : (s.setSchedule v).tlb = s.tlb := rfl
@[simp] theorem State.setSchedule_tlbNext (v : List EnvAction) : (s.setSchedule v).tlbNext = s.tlbNext := rfl
@[simp] theorem State.setSchedule_cache (v : List EnvAction) : (s.setSchedule v).cache = s.cache := rfl
@[simp] theorem State.setSchedule_pf (v : List EnvAction) : (s.setSchedule v).pf = s.pf := rfl
@[simp] theorem State.setSchedule_faultPending (v : List EnvAction) : (s.setSchedule v).faultPending = s.faultPending := rfl
@[simp] theorem State.setSchedule_halted (v : List EnvAction) : (s.setSchedule v).halted = s.halted := rfl
@[simp] theorem State.setSchedule_params (v : List EnvAction) : (s.setSchedule v).params = s.params := rfl
@[simp] theorem State.setSchedule_processorId (v : List EnvAction) : (s.setSchedule v).processorId = s.processorId := rfl
@[simp] theorem State.setSchedule_mem (v : List EnvAction) : (s.setSchedule v).mem = s.mem := rfl
@[simp] theorem State.setSchedule_bus (v : List EnvAction) : (s.setSchedule v).bus = s.bus := rfl
@[simp] theorem State.setSchedule_busTrace (v : List EnvAction) : (s.setSchedule v).busTrace = s.busTrace := rfl
@[simp] theorem State.setSchedule_schedule (v : List EnvAction) : (s.setSchedule v).schedule = v := rfl
@[simp] theorem State.setSchedule_draws (v : List EnvAction) : (s.setSchedule v).draws = s.draws := rfl

@[simp] theorem State.setDraws_regs (v : Nat) : (s.setDraws v).regs = s.regs := rfl
@[simp] theorem State.setDraws_curBank (v : Nat) : (s.setDraws v).curBank = s.curBank := rfl
@[simp] theorem State.setDraws_bankR13 (v : Nat) : (s.setDraws v).bankR13 = s.bankR13 := rfl
@[simp] theorem State.setDraws_bankR14 (v : Nat) : (s.setDraws v).bankR14 = s.bankR14 := rfl
@[simp] theorem State.setDraws_fiqShadow0 (v : Nat) : (s.setDraws v).fiqShadow0 = s.fiqShadow0 := rfl
@[simp] theorem State.setDraws_fiqShadow1 (v : Nat) : (s.setDraws v).fiqShadow1 = s.fiqShadow1 := rfl
@[simp] theorem State.setDraws_cpsr (v : Nat) : (s.setDraws v).cpsr = s.cpsr := rfl
@[simp] theorem State.setDraws_spsr (v : Nat) : (s.setDraws v).spsr = s.spsr := rfl
@[simp] theorem State.setDraws_cp15 (v : Nat) : (s.setDraws v).cp15 = s.cp15 := rfl
@[simp] theorem State.setDraws_tlb (v : Nat) : (s.setDraws v).tlb = s.tlb := rfl
@[simp] theorem State.setDraws_tlbNext (v : Nat) : (s.setDraws v).tlbNext = s.tlbNext := rfl
@[simp] theorem State.setDraws_cache (v : Nat) : (s.setDraws v).cache = s.cache := rfl
@[simp] theorem State.setDraws_pf (v : Nat) : (s.setDraws v).pf = s.pf := rfl
@[simp] theorem State.setDraws_faultPending (v : Nat) : (s.setDraws v).faultPending = s.faultPending := rfl
@[simp] theorem State.setDraws_halted (v : Nat) : (s.setDraws v).halted = s.halted := rfl
@[simp] theorem State.setDraws_params (v : Nat) : (s.setDraws v).params = s.params := rfl
@[simp] theorem State.setDraws_processorId (v : Nat) : (s.setDraws v).processorId = s.processorId := rfl
@[simp] theorem State.setDraws_mem (v : Nat) : (s.setDraws v).mem = s.mem := rfl
@[simp] theorem State.setDraws_bus (v : Nat) : (s.setDraws v).bus = s.bus := rfl
@[simp] theorem State.setDraws_busTrace (v : Nat) : (s.setDraws v).busTrace = s.busTrace := rfl
@[simp] theorem State.setDraws_schedule (v : Nat) : (s.setDraws v).schedule = s.schedule := rfl
@[simp] theorem State.setDraws_draws (v : Nat) : (s.setDraws v).draws = v := rfl

/-! ### Registers -/

@[simp] theorem State.reg_setReg_self (r : Reg) (v : Word) : (s.setReg r v).reg r = v := by
  simp [State.reg, State.setReg, Vector.get_eq_getElem]

theorem State.reg_setReg_of_ne {r r' : Reg} (h : r' ≠ r) (v : Word) : (s.setReg r v).reg r' = s.reg r' := by
  simp only [State.reg, State.setReg, Vector.get_eq_getElem]
  exact Vector.getElem_set_ne _ _ fun e => h (Fin.ext e.symm)

theorem State.reg_setReg (r r' : Reg) (v : Word) : (s.setReg r v).reg r' = if r' = r then v else s.reg r' := by
  split
  · subst r'; simp
  · exact s.reg_setReg_of_ne ‹_› v

@[simp] theorem State.reg_setCurBank (v : Bank) (r : Reg) : (s.setCurBank v).reg r = s.reg r := rfl
@[simp] theorem State.pc_setCurBank (v : Bank) : (s.setCurBank v).pc = s.pc := rfl
@[simp] theorem State.reg_setBankR13 (v : BankWords) (r : Reg) : (s.setBankR13 v).reg r = s.reg r := rfl
@[simp] theorem State.pc_setBankR13 (v : BankWords) : (s.setBankR13 v).pc = s.pc := rfl
@[simp] theorem State.reg_setBankR14 (v : BankWords) (r : Reg) : (s.setBankR14 v).reg r = s.reg r := rfl
@[simp] theorem State.pc_setBankR14 (v : BankWords) : (s.setBankR14 v).pc = s.pc := rfl
@[simp] theorem State.reg_setFiqShadow0 (v : Shadow) (r : Reg) : (s.setFiqShadow0 v).reg r = s.reg r := rfl
@[simp] theorem State.pc_setFiqShadow0 (v : Shadow) : (s.setFiqShadow0 v).pc = s.pc := rfl
@[simp] theorem State.reg_setFiqShadow1 (v : Shadow) (r : Reg) : (s.setFiqShadow1 v).reg r = s.reg r := rfl
@[simp] theorem State.pc_setFiqShadow1 (v : Shadow) : (s.setFiqShadow1 v).pc = s.pc := rfl
@[simp] theorem State.reg_setSpsr (b : ExcBank) (v : Word) (r : Reg) : (s.setSpsr b v).reg r = s.reg r := rfl
@[simp] theorem State.pc_setSpsr (b : ExcBank) (v : Word) : (s.setSpsr b v).pc = s.pc := rfl
@[simp] theorem State.reg_setCpsr (v : Word) (r : Reg) : (s.setCpsr v).reg r = s.reg r := rfl
@[simp] theorem State.pc_setCpsr (v : Word) : (s.setCpsr v).pc = s.pc := rfl
@[simp] theorem State.reg_setCp15 (v : Cp15) (r : Reg) : (s.setCp15 v).reg r = s.reg r := rfl
@[simp] theorem State.pc_setCp15 (v : Cp15) : (s.setCp15 v).pc = s.pc := rfl
@[simp] theorem State.reg_setTlb (v : Vector TlbEntry 64) (r : Reg) : (s.setTlb v).reg r = s.reg r := rfl
@[simp] theorem State.pc_setTlb (v : Vector TlbEntry 64) : (s.setTlb v).pc = s.pc := rfl
@[simp] theorem State.reg_setTlbNext (v : Fin 64) (r : Reg) : (s.setTlbNext v).reg r = s.reg r := rfl
@[simp] theorem State.pc_setTlbNext (v : Fin 64) : (s.setTlbNext v).pc = s.pc := rfl
@[simp] theorem State.reg_setCache (v : Cache) (r : Reg) : (s.setCache v).reg r = s.reg r := rfl
@[simp] theorem State.pc_setCache (v : Cache) : (s.setCache v).pc = s.pc := rfl
@[simp] theorem State.reg_setPf (v : Prefetch) (r : Reg) : (s.setPf v).reg r = s.reg r := rfl
@[simp] theorem State.pc_setPf (v : Prefetch) : (s.setPf v).pc = s.pc := rfl
@[simp] theorem State.reg_setFaultPending (v : Option FaultCode) (r : Reg) : (s.setFaultPending v).reg r = s.reg r := rfl
@[simp] theorem State.pc_setFaultPending (v : Option FaultCode) : (s.setFaultPending v).pc = s.pc := rfl
@[simp] theorem State.reg_setHalted (v : Bool) (r : Reg) : (s.setHalted v).reg r = s.reg r := rfl
@[simp] theorem State.pc_setHalted (v : Bool) : (s.setHalted v).pc = s.pc := rfl
@[simp] theorem State.reg_setProcessorId (v : Word) (r : Reg) : (s.setProcessorId v).reg r = s.reg r := rfl
@[simp] theorem State.pc_setProcessorId (v : Word) : (s.setProcessorId v).pc = s.pc := rfl
@[simp] theorem State.reg_setMem (v : Memory) (r : Reg) : (s.setMem v).reg r = s.reg r := rfl
@[simp] theorem State.pc_setMem (v : Memory) : (s.setMem v).pc = s.pc := rfl
@[simp] theorem State.reg_setBusTrace (v : List BusCall) (r : Reg) : (s.setBusTrace v).reg r = s.reg r := rfl
@[simp] theorem State.pc_setBusTrace (v : List BusCall) : (s.setBusTrace v).pc = s.pc := rfl
@[simp] theorem State.reg_setSchedule (v : List EnvAction) (r : Reg) : (s.setSchedule v).reg r = s.reg r := rfl
@[simp] theorem State.pc_setSchedule (v : List EnvAction) : (s.setSchedule v).pc = s.pc := rfl
@[simp] theorem State.reg_setDraws (v : Nat) (r : Reg) : (s.setDraws v).reg r = s.reg r := rfl
@[simp] theorem State.pc_setDraws (v : Nat) : (s.setDraws v).pc = s.pc := rfl

@[simp] theorem State.pc_setReg_pcReg (v : Word) : (s.setReg pcReg v).pc = v := s.reg_setReg_self pcReg v

theorem State.pc_setReg_of_ne {r : Reg} (h : r ≠ pcReg) (v : Word) : (s.setReg r v).pc = s.pc :=
  s.reg_setReg_of_ne h.symm v

theorem State.setReg_comm {r r' : Reg} (h : r ≠ r') (v v' : Word) :
    (s.setReg r v).setReg r' v' = (s.setReg r' v').setReg r v := by
  simp only [State.setReg]
  congr 1
  exact Vector.set_comm _ _ fun e => h (Fin.ext e)

@[simp] theorem State.setReg_setReg (r : Reg) (v v' : Word) : (s.setReg r v).setReg r v' = s.setReg r v' := by
  simp [State.setReg]

/-- Two states with the same registers read the same. -/
theorem State.regs_ext {s t : State} (h : ∀ r, s.reg r = t.reg r) : s.regs = t.regs := by
  apply Vector.ext
  intro i hi
  simpa [State.reg, Vector.get_eq_getElem] using h ⟨i, hi⟩

/-! ### Banks -/

@[simp] theorem BankWords.get_put_self (w : BankWords) (v : Word) (b : Bank) : (w.put v b).get b = v := by
  rcases b with _ | b
  · rfl
  · cases b <;> rfl

theorem BankWords.get_put_of_ne (w : BankWords) (v : Word) {b b' : Bank} (h : b' ≠ b) :
    (w.put v b).get b' = w.get b' := by
  rcases b with _ | b <;> rcases b' with _ | b'
  · exact absurd rfl h
  · cases b' <;> rfl
  · cases b <;> rfl
  · cases b <;> cases b' <;> first | rfl | exact absurd rfl h

@[simp] theorem SpsrWords.get_put_self (w : SpsrWords) (v : Word) (b : ExcBank) : (w.put v b).get b = v := by
  cases b <;> rfl

theorem SpsrWords.get_put_of_ne (w : SpsrWords) (v : Word) {b b' : ExcBank} (h : b' ≠ b) :
    (w.put v b).get b' = w.get b' := by
  cases b <;> cases b' <;> first | rfl | exact absurd rfl h

/-! ### Outcomes -/

@[simp] theorem andThen_next {α β : Type} (a : α) (k : α → Outcome β) : andThen (.next a) k = k a := rfl

@[simp] theorem andThen_fault {α β : Type} (r : Fault) (k : α → Outcome β) : andThen (.fault r) k = .fault r := rfl

@[simp] theorem andThen_refused {α β : Type} (r : Refusal) (k : α → Outcome β) :
    andThen (.refused r) k = .refused r := rfl

/-- A sequence answers a next state exactly when both of its parts do. -/
theorem andThen_eq_next {α β : Type} {o : Outcome α} {k : α → Outcome β} {b : β} :
    andThen o k = .next b ↔ ∃ a, o = .next a ∧ k a = .next b := by
  cases o <;> simp [andThen]

end Sys2Proof.Machine
end

