-- ==== Sys2Proof/Laws/Memory.lean ====
section
/-! SUPPORT. The laws of memory: a read after a write, at the same address and at another, and the canonical form kept. -/

namespace Sys2Proof.Machine

theorem Memory.readByte_place_of_ne {a a' : Nat} (h : a' ≠ a) (b : Byte) (m : Memory) :
    (Memory.place a b m).readByte a' = m.readByte a' := by
  unfold Memory.place
  split
  · rfl
  · simp [Memory.readByte, h.symm]

/-- A write leaves every other address alone. -/
theorem Memory.readByte_writeByte_of_ne (m : Memory) {a a' : Nat} (h : a' ≠ a) (b : Byte) :
    (m.writeByte a b).readByte a' = m.readByte a' := by
  induction m with
  | nil => exact readByte_place_of_ne h b []
  | cons c rest ih =>
    obtain ⟨x, v⟩ := c
    simp only [Memory.writeByte]
    split
    · exact readByte_place_of_ne h b _
    · split
      · rename_i hx
        rw [readByte_place_of_ne h]
        simp [Memory.readByte, ← hx, h.symm]
      · simp only [Memory.readByte, ih]

theorem Memory.readByte_below {lo a : Nat} {m : Memory} (hm : Memory.wfFrom lo m = true) (h : a < lo) :
    m.readByte a = Memory.unlisted := by
  induction m generalizing lo with
  | nil => rfl
  | cons c rest ih =>
    obtain ⟨x, v⟩ := c
    simp only [Memory.wfFrom, Bool.and_eq_true, decide_eq_true_eq] at hm
    have hx : x ≠ a := by omega
    simp only [Memory.readByte, if_neg hx]
    exact ih hm.2 (by omega)

theorem Memory.wfFrom_mono {lo lo' : Nat} {m : Memory} (hm : Memory.wfFrom lo m = true) (h : lo' ≤ lo) :
    Memory.wfFrom lo' m = true := by
  cases m with
  | nil => rfl
  | cons c rest =>
    obtain ⟨x, v⟩ := c
    simp only [Memory.wfFrom, Bool.and_eq_true, decide_eq_true_eq] at hm ⊢
    exact ⟨⟨⟨by omega, hm.1.1.2⟩, hm.1.2⟩, hm.2⟩

theorem Memory.readByte_place_self {a : Nat} {b : Byte} {m : Memory} (hm : Memory.wfFrom (a + 1) m = true) :
    (Memory.place a b m).readByte a = b := by
  unfold Memory.place
  split
  · rw [readByte_below hm (by omega)]; exact Eq.symm ‹_›
  · simp [Memory.readByte]

/-- A read after a write to the same address gives the byte written. -/
theorem Memory.readByte_writeByte_self_from {lo : Nat} {m : Memory} (hm : Memory.wfFrom lo m = true) (a : Nat)
    (b : Byte) : (m.writeByte a b).readByte a = b := by
  induction m generalizing lo with
  | nil => exact readByte_place_self rfl
  | cons c rest ih =>
    obtain ⟨x, v⟩ := c
    have hm' := hm
    simp only [Memory.wfFrom, Bool.and_eq_true, decide_eq_true_eq] at hm
    simp only [Memory.writeByte]
    split
    · apply readByte_place_self
      simp only [Memory.wfFrom, Bool.and_eq_true, decide_eq_true_eq]
      exact ⟨⟨⟨by omega, hm.1.1.2⟩, hm.1.2⟩, hm.2⟩
    · split
      · rename_i hx
        apply readByte_place_self
        rw [hx]; exact hm.2
      · have hx : x ≠ a := Ne.symm ‹_›
        simp only [Memory.readByte, if_neg hx]
        exact ih hm.2

theorem Memory.readByte_writeByte_self {m : Memory} (hm : m.wf = true) (a : Nat) (b : Byte) :
    (m.writeByte a b).readByte a = b := readByte_writeByte_self_from hm a b

theorem Memory.wfFrom_place {lo a : Nat} {b : Byte} {m : Memory} (hlo : lo ≤ a) (ha : a < 2 ^ 32)
    (hm : Memory.wfFrom (a + 1) m = true) : Memory.wfFrom lo (Memory.place a b m) = true := by
  unfold Memory.place
  split
  · exact wfFrom_mono hm (by omega)
  · simp only [Memory.wfFrom, Bool.and_eq_true, decide_eq_true_eq, bne_iff_ne, ne_eq]
    exact ⟨⟨⟨hlo, ha⟩, ‹_›⟩, hm⟩

theorem Memory.wfFrom_writeByte {lo : Nat} {m : Memory} (hm : Memory.wfFrom lo m = true) {a : Nat} (hlo : lo ≤ a)
    (ha : a < 2 ^ 32) (b : Byte) : Memory.wfFrom lo (m.writeByte a b) = true := by
  induction m generalizing lo with
  | nil => exact wfFrom_place hlo ha rfl
  | cons c rest ih =>
    obtain ⟨x, v⟩ := c
    simp only [Memory.wfFrom, Bool.and_eq_true, decide_eq_true_eq] at hm
    simp only [Memory.writeByte]
    split
    · apply wfFrom_place hlo ha
      simp only [Memory.wfFrom, Bool.and_eq_true, decide_eq_true_eq]
      exact ⟨⟨⟨by omega, hm.1.1.2⟩, hm.1.2⟩, hm.2⟩
    · split
      · rename_i hx
        apply wfFrom_place hlo ha
        rw [hx]; exact hm.2
      · simp only [Memory.wfFrom, Bool.and_eq_true, decide_eq_true_eq]
        exact ⟨⟨⟨hm.1.1.1, hm.1.1.2⟩, hm.1.2⟩, ih hm.2 (by omega)⟩

/-- A write of one byte keeps the canonical form. -/
theorem Memory.wf_writeByte {m : Memory} (hm : m.wf = true) {a : Nat} (ha : a < 2 ^ 32) (b : Byte) :
    (m.writeByte a b).wf = true := wfFrom_writeByte hm (Nat.zero_le a) ha b

/-- A write of one word keeps the canonical form. -/
theorem Memory.wf_writeWord {m : Memory} (hm : m.wf = true) {a : Nat} (ha : a + 4 ≤ 2 ^ 32) (v : Word) :
    (m.writeWord a v).wf = true :=
  wf_writeByte (wf_writeByte (wf_writeByte (wf_writeByte hm (by omega) _) (by omega) _) (by omega) _) (by omega) _

/-- A write of either size keeps the canonical form. -/
theorem Memory.wf_writeSize {m : Memory} (hm : m.wf = true) {a : Nat} {n : Size} (ha : a + sizeBytes n ≤ 2 ^ 32)
    (v : Word) : (m.writeSize a n v).wf = true := by
  cases n
  · exact wf_writeByte hm (by simp only [sizeBytes] at ha; omega) _
  · exact wf_writeWord hm ha v

/-- A write of either size leaves the bytes outside it alone. -/
theorem Memory.readByte_writeSize_outside (m : Memory) {a a' : Nat} {n : Size} (v : Word)
    (h : a' < a ∨ a + sizeBytes n ≤ a') : (m.writeSize a n v).readByte a' = m.readByte a' := by
  cases n <;> simp only [sizeBytes] at h
  · exact readByte_writeByte_of_ne m (by omega) _
  · simp only [Memory.writeSize, Memory.writeWord]
    rw [readByte_writeByte_of_ne _ (by omega), readByte_writeByte_of_ne _ (by omega),
      readByte_writeByte_of_ne _ (by omega), readByte_writeByte_of_ne _ (by omega)]

/-- The four bytes of a word after it is written (R64). -/
theorem Memory.readByte_writeWord {m : Memory} (hm : m.wf = true) {a : Nat} (ha : a + 4 ≤ 2 ^ 32) (v : Word) :
    (m.writeWord a v).readByte a = v.extractLsb' 0 8 ∧ (m.writeWord a v).readByte (a + 1) = v.extractLsb' 8 8 ∧
      (m.writeWord a v).readByte (a + 2) = v.extractLsb' 16 8 ∧
      (m.writeWord a v).readByte (a + 3) = v.extractLsb' 24 8 := by
  have h0 := wf_writeByte hm (a := a) (by omega) (v.extractLsb' 0 8)
  have h1 := wf_writeByte h0 (a := a + 1) (by omega) (v.extractLsb' 8 8)
  have h2 := wf_writeByte h1 (a := a + 2) (by omega) (v.extractLsb' 16 8)
  simp only [Memory.writeWord]
  refine ⟨?_, ?_, ?_, readByte_writeByte_self h2 _ _⟩
  · rw [readByte_writeByte_of_ne _ (by omega), readByte_writeByte_of_ne _ (by omega),
      readByte_writeByte_of_ne _ (by omega), readByte_writeByte_self hm]
  · rw [readByte_writeByte_of_ne _ (by omega), readByte_writeByte_of_ne _ (by omega), readByte_writeByte_self h0]
  · rw [readByte_writeByte_of_ne _ (by omega), readByte_writeByte_self h1]

/-- The four bytes of a word put together again. -/
theorem word_of_its_bytes (v : Word) :
    v.extractLsb' 24 8 ++ v.extractLsb' 16 8 ++ v.extractLsb' 8 8 ++ v.extractLsb' 0 8 = v := by
  rw [BitVec.extractLsb'_append_extractLsb'_eq_extractLsb' (by decide),
    BitVec.extractLsb'_append_extractLsb'_eq_extractLsb' (by decide),
    BitVec.extractLsb'_append_extractLsb'_eq_extractLsb' (by decide)]
  exact BitVec.extractLsb'_eq_self

/-- A word read after it is written is the word written. -/
theorem Memory.readWord_writeWord {m : Memory} (hm : m.wf = true) {a : Nat} (ha : a + 4 ≤ 2 ^ 32) (v : Word) :
    (m.writeWord a v).readWord a = v := by
  obtain ⟨h0, h1, h2, h3⟩ := readByte_writeWord hm ha v
  simp only [Memory.readWord, h0, h1, h2, h3]
  exact word_of_its_bytes v

/-- A value of either size read after it is written. -/
theorem Memory.readSize_writeSize {m : Memory} (hm : m.wf = true) {a : Nat} {n : Size}
    (ha : a + sizeBytes n ≤ 2 ^ 32) (v : Word) : (m.writeSize a n v).readSize a n = truncateTo n v := by
  cases n
  · simp only [Memory.readSize, Memory.writeSize, truncateTo, readByte_writeByte_self hm]
  · exact readWord_writeWord hm ha v

end Sys2Proof.Machine
end

