-- ==== Sys2Proof/Laws/Frames.lean ====
section
/-! SUPPORT. The frames of Safety.lean compose, and what each leaves unchanged field by field. -/

namespace Sys2Proof.Machine

variable {s t u : State}

theorem ReadFrame.refl (s : State) : ReadFrame s s := rfl

theorem ReadFrame.trans (h : ReadFrame s t) (h' : ReadFrame t u) : ReadFrame s u := by
  unfold ReadFrame at *
  rw [h', h]

theorem WriteFrame.refl (s : State) : WriteFrame s s := rfl

theorem WriteFrame.trans (h : WriteFrame s t) (h' : WriteFrame t u) : WriteFrame s u := by
  unfold WriteFrame at *
  rw [h', h]

theorem ReadFrame.writeFrame (h : ReadFrame s t) : WriteFrame s t := by
  unfold ReadFrame at h
  unfold WriteFrame
  rw [h]

theorem ReadFrame.regs_eq (h : ReadFrame s t) : t.regs = s.regs := by rw [h]
theorem ReadFrame.curBank_eq (h : ReadFrame s t) : t.curBank = s.curBank := by rw [h]
theorem ReadFrame.bankR13_eq (h : ReadFrame s t) : t.bankR13 = s.bankR13 := by rw [h]
theorem ReadFrame.bankR14_eq (h : ReadFrame s t) : t.bankR14 = s.bankR14 := by rw [h]
theorem ReadFrame.fiqShadow0_eq (h : ReadFrame s t) : t.fiqShadow0 = s.fiqShadow0 := by rw [h]
theorem ReadFrame.fiqShadow1_eq (h : ReadFrame s t) : t.fiqShadow1 = s.fiqShadow1 := by rw [h]
theorem ReadFrame.cpsr_eq (h : ReadFrame s t) : t.cpsr = s.cpsr := by rw [h]
theorem ReadFrame.spsr_eq (h : ReadFrame s t) : t.spsr = s.spsr := by rw [h]
theorem ReadFrame.cp15_eq (h : ReadFrame s t) : t.cp15 = s.cp15 := by rw [h]
theorem ReadFrame.pf_eq (h : ReadFrame s t) : t.pf = s.pf := by rw [h]
theorem ReadFrame.faultPending_eq (h : ReadFrame s t) : t.faultPending = s.faultPending := by rw [h]
theorem ReadFrame.halted_eq (h : ReadFrame s t) : t.halted = s.halted := by rw [h]
theorem ReadFrame.params_eq (h : ReadFrame s t) : t.params = s.params := by rw [h]
theorem ReadFrame.processorId_eq (h : ReadFrame s t) : t.processorId = s.processorId := by rw [h]
theorem ReadFrame.mem_eq (h : ReadFrame s t) : t.mem = s.mem := by rw [h]
theorem ReadFrame.bus_eq (h : ReadFrame s t) : t.bus = s.bus := by rw [h]
theorem ReadFrame.schedule_eq (h : ReadFrame s t) : t.schedule = s.schedule := by rw [h]

theorem WriteFrame.regs_eq (h : WriteFrame s t) : t.regs = s.regs := by rw [h]
theorem WriteFrame.curBank_eq (h : WriteFrame s t) : t.curBank = s.curBank := by rw [h]
theorem WriteFrame.bankR13_eq (h : WriteFrame s t) : t.bankR13 = s.bankR13 := by rw [h]
theorem WriteFrame.bankR14_eq (h : WriteFrame s t) : t.bankR14 = s.bankR14 := by rw [h]
theorem WriteFrame.fiqShadow0_eq (h : WriteFrame s t) : t.fiqShadow0 = s.fiqShadow0 := by rw [h]
theorem WriteFrame.fiqShadow1_eq (h : WriteFrame s t) : t.fiqShadow1 = s.fiqShadow1 := by rw [h]
theorem WriteFrame.cpsr_eq (h : WriteFrame s t) : t.cpsr = s.cpsr := by rw [h]
theorem WriteFrame.spsr_eq (h : WriteFrame s t) : t.spsr = s.spsr := by rw [h]
theorem WriteFrame.cp15_eq (h : WriteFrame s t) : t.cp15 = s.cp15 := by rw [h]
theorem WriteFrame.pf_eq (h : WriteFrame s t) : t.pf = s.pf := by rw [h]
theorem WriteFrame.faultPending_eq (h : WriteFrame s t) : t.faultPending = s.faultPending := by rw [h]
theorem WriteFrame.params_eq (h : WriteFrame s t) : t.params = s.params := by rw [h]
theorem WriteFrame.processorId_eq (h : WriteFrame s t) : t.processorId = s.processorId := by rw [h]
theorem WriteFrame.bus_eq (h : WriteFrame s t) : t.bus = s.bus := by rw [h]
theorem WriteFrame.schedule_eq (h : WriteFrame s t) : t.schedule = s.schedule := by rw [h]

theorem ReadFrame.reg_eq (h : ReadFrame s t) (r : Reg) : t.reg r = s.reg r := by rw [h]; rfl

theorem WriteFrame.reg_eq (h : WriteFrame s t) (r : Reg) : t.reg r = s.reg r := by rw [h]; rfl

theorem ReadFrame.pc_eq (h : ReadFrame s t) : t.pc = s.pc := h.reg_eq pcReg

theorem WriteFrame.pc_eq (h : WriteFrame s t) : t.pc = s.pc := h.reg_eq pcReg

/-- A register write commutes out of a read's frame. -/
theorem ReadFrame.setReg (h : ReadFrame s t) (r : Reg) (v : Word) : ReadFrame (s.setReg r v) (t.setReg r v) := by
  unfold ReadFrame at *
  rw [h]
  rfl

end Sys2Proof.Machine
end

