-- ==== Sys2Proof/Laws/Access.lean ====
section
/-! SUPPORT. What a bus call, a translation, a virtual read and a virtual write can do: one frame lemma for each. -/

namespace Sys2Proof.Machine

/-! ### The bus -/

theorem busRead_frame (pa : Word) (n : Size) (s : State) : ReadFrame s (busRead pa n s).2 := by
  unfold busRead
  cases busKindAt s.bus pa <;> rfl

theorem busRead_tlb (pa : Word) (n : Size) (s : State) : (busRead pa n s).2.tlb = s.tlb := by
  unfold busRead
  cases busKindAt s.bus pa <;> rfl

theorem busRead_tlbNext (pa : Word) (n : Size) (s : State) : (busRead pa n s).2.tlbNext = s.tlbNext := by
  unfold busRead
  cases busKindAt s.bus pa <;> rfl

theorem busRead_cache (pa : Word) (n : Size) (s : State) : (busRead pa n s).2.cache = s.cache := by
  unfold busRead
  cases busKindAt s.bus pa <;> rfl

/-- A read of RAM is the memory's value and one recorded call. -/
theorem busRead_ram {pa : Word} {s : State} (h : busKindAt s.bus pa = .ram) (n : Size) :
    busRead pa n s = (some (s.mem.readSize pa.toNat n), s.logBus (.read pa n)) := by
  simp [busRead, h]

theorem busWrite_frame (pa : Word) (n : Size) (v : Word) (s : State) : WriteFrame s (busWrite pa n v s).2 := by
  unfold busWrite
  cases busKindAt s.bus pa <;> rfl

theorem busWrite_cache (pa : Word) (n : Size) (v : Word) (s : State) : (busWrite pa n v s).2.cache = s.cache := by
  unfold busWrite
  cases busKindAt s.bus pa <;> rfl

theorem busWrite_tlb (pa : Word) (n : Size) (v : Word) (s : State) : (busWrite pa n v s).2.tlb = s.tlb := by
  unfold busWrite
  cases busKindAt s.bus pa <;> rfl

/-- The memory after a bus write: written by RAM, as before otherwise. -/
theorem busWrite_mem (pa : Word) (n : Size) (v : Word) (s : State) :
    (busWrite pa n v s).2.mem = s.mem.writeSize pa.toNat n v ∨ (busWrite pa n v s).2.mem = s.mem := by
  unfold busWrite
  cases busKindAt s.bus pa <;> simp [State.logBus]

/-! ### Translation -/

theorem walkLevel2_frame (l1 va : Word) (s : State) : ReadFrame s (walkLevel2 l1 va s).2 := by
  have h := busRead_frame (level2Address l1 va) .word s
  unfold walkLevel2
  split <;> rename_i heq <;> rw [heq] at h
  · exact h
  · split
    · exact h
    · split <;> exact h

theorem tableWalk_frame (va : Word) (s : State) : ReadFrame s (tableWalk va s).2 := by
  have h := busRead_frame (level1Address s.cp15.ttb va) .word s
  unfold tableWalk
  split <;> rename_i heq <;> rw [heq] at h
  · exact h
  · split
    · exact h
    · split
      · exact h.trans (walkLevel2_frame _ _ _)
      · exact h

theorem walkLevel2_tlb (l1 va : Word) (s : State) :
    (walkLevel2 l1 va s).2.tlb = s.tlb ∧ (walkLevel2 l1 va s).2.tlbNext = s.tlbNext ∧
      (walkLevel2 l1 va s).2.cache = s.cache := by
  have h1 := busRead_tlb (level2Address l1 va) .word s
  have h2 := busRead_tlbNext (level2Address l1 va) .word s
  have h3 := busRead_cache (level2Address l1 va) .word s
  unfold walkLevel2
  split <;> rename_i heq <;> rw [heq] at h1 h2 h3
  · exact ⟨h1, h2, h3⟩
  · split
    · exact ⟨h1, h2, h3⟩
    · split <;> exact ⟨h1, h2, h3⟩

/-- A walk installs nothing and touches no cache line. -/
theorem tableWalk_tlb (va : Word) (s : State) :
    (tableWalk va s).2.tlb = s.tlb ∧ (tableWalk va s).2.tlbNext = s.tlbNext ∧
      (tableWalk va s).2.cache = s.cache := by
  have h1 := busRead_tlb (level1Address s.cp15.ttb va) .word s
  have h2 := busRead_tlbNext (level1Address s.cp15.ttb va) .word s
  have h3 := busRead_cache (level1Address s.cp15.ttb va) .word s
  unfold tableWalk
  split <;> rename_i heq <;> rw [heq] at h1 h2 h3
  · exact ⟨h1, h2, h3⟩
  · split
    · exact ⟨h1, h2, h3⟩
    · split
      · obtain ⟨k1, k2, k3⟩ := walkLevel2_tlb _ va _
        exact ⟨k1.trans h1, k2.trans h2, k3.trans h3⟩
      · exact ⟨h1, h2, h3⟩

theorem tlbInstall_frame (e : TlbEntry) (s : State) : ReadFrame s (tlbInstall e s) := rfl

theorem translate_frame (install : Bool) (va : Word) (s : State) : ReadFrame s (translate install va s).2 := by
  have h := tableWalk_frame va s
  unfold translate
  split
  · exact ReadFrame.refl s
  · split <;> rename_i heq <;> rw [heq] at h
    · exact h
    · split
      · exact h.trans (tlbInstall_frame _ _)
      · exact h

theorem translate_cache (install : Bool) (va : Word) (s : State) : (translate install va s).2.cache = s.cache := by
  have h := (tableWalk_tlb va s).2.2
  unfold translate
  split
  · rfl
  · split <;> rename_i heq <;> rw [heq] at h
    · exact h
    · split
      · exact h
      · exact h

/-! ### The place of an access -/

theorem locate_eq_next {va : Word} {n : Size} {isWrite : Bool} {s : State} {p : Located × State}
    (h : locate va n isWrite s = .next p) : ReadFrame s p.2 ∧ p.2.cache = s.cache := by
  unfold locate at h
  split at h
  · cases h; exact ⟨ReadFrame.refl s, rfl⟩
  · split at h
    · have hf := translate_frame true (accessAddress va n) s
      have hc := translate_cache true (accessAddress va n) s
      split at h <;> rename_i heq <;> rw [heq] at hf hc
      · cases h; exact ⟨hf, hc⟩
      · split at h
        · cases h; exact ⟨hf, hc⟩
        · cases h; exact ⟨hf, hc⟩
        · cases h
    · cases h; exact ⟨ReadFrame.refl s, rfl⟩

/-- The permission check is undecided only when control bits S and R are both 1 (R97, U3). -/
theorem checkAccess_defined {s : State} (h : s.PermissionsDefined) (e : TlbEntry) (va : Word) (isWrite : Bool) :
    checkAccess e va isWrite s ≠ .unpredictable := by
  have hofBool : ∀ b, ApAnswer.ofBool b ≠ .unpredictable := by decide
  have hap : ∀ ap priv, apTable ap (s.cp15.control.getLsbD 8) (s.cp15.control.getLsbD 9) priv isWrite
      ≠ .unpredictable := by
    intro ap priv
    unfold State.PermissionsDefined at h
    unfold apTable
    split
    · generalize s.cp15.control.getLsbD 8 = x at *
      generalize s.cp15.control.getLsbD 9 = y at *
      cases x <;> cases y <;> first | exact hofBool _ | simp_all
    · split
      · exact hofBool _
      · split
        · exact hofBool _
        · simp
  unfold checkAccess
  dsimp only
  split
  · simp
  · split
    · split
      · simp
      · simp
      · exact absurd ‹_› (hap _ _)
    · simp

/-- An access always finds its place, or a fault, when control bits S and R are not both 1. -/
theorem locate_answers {s : State} (h : s.PermissionsDefined) (va : Word) (n : Size) (isWrite : Bool) :
    ∃ p, locate va n isWrite s = .next p := by
  unfold locate
  split
  · exact ⟨_, rfl⟩
  · split
    · have hf := translate_frame true (accessAddress va n) s
      split
      · exact ⟨_, rfl⟩
      · rename_i e s1 heq
        rw [heq] at hf
        have hd : s1.PermissionsDefined := by
          unfold State.PermissionsDefined at h ⊢
          rw [hf.cp15_eq]; exact h
        split
        · exact ⟨_, rfl⟩
        · exact ⟨_, rfl⟩
        · exact absurd ‹_› (checkAccess_defined hd _ _ _)
    · exact ⟨_, rfl⟩

/-! ### Virtual read -/

theorem refillReads_frame (base : Word) (s : State) : ReadFrame s (refillReads base s).2 := by
  unfold refillReads
  have h0 := busRead_frame base .word s
  split <;> rename_i heq <;> rw [heq] at h0
  · exact h0
  · rename_i _ s1
    have h1 := busRead_frame (base + 4#32) .word s1
    split <;> rename_i heq <;> rw [heq] at h1
    · exact h0.trans h1
    · rename_i _ s2
      have h2 := busRead_frame (base + 8#32) .word s2
      split <;> rename_i heq <;> rw [heq] at h2
      · exact (h0.trans h1).trans h2
      · rename_i _ s3
        have h3 := busRead_frame (base + 12#32) .word s3
        split <;> rename_i heq <;> rw [heq] at h3
        · exact ((h0.trans h1).trans h2).trans h3
        · exact ((h0.trans h1).trans h2).trans h3

theorem refillReads_cache (base : Word) (s : State) : (refillReads base s).2.cache = s.cache := by
  unfold refillReads
  have h0 := busRead_cache base .word s
  split <;> rename_i heq <;> rw [heq] at h0
  · exact h0
  · rename_i _ s1
    have h1 := busRead_cache (base + 4#32) .word s1
    split <;> rename_i heq <;> rw [heq] at h1
    · exact h1.trans h0
    · rename_i _ s2
      have h2 := busRead_cache (base + 8#32) .word s2
      split <;> rename_i heq <;> rw [heq] at h2
      · exact h2.trans (h1.trans h0)
      · rename_i _ s3
        have h3 := busRead_cache (base + 12#32) .word s3
        split <;> rename_i heq <;> rw [heq] at h3
        · exact h3.trans (h2.trans (h1.trans h0))
        · exact h3.trans (h2.trans (h1.trans h0))

theorem cacheRefillAndRead_frame (ta pa : Word) (n : Size) (s : State) :
    ReadFrame s (cacheRefillAndRead ta pa n s).2 := by
  have h := refillReads_frame (pa &&& 0xFFFFFFF0#32) s
  unfold cacheRefillAndRead
  split <;> rename_i heq <;> rw [heq] at h
  · exact h
  · exact h.trans rfl

theorem Reply.ofBus_snd (f : FaultCode) (p : Option Word × State) : (Reply.ofBus f p).2 = p.2 := by
  obtain ⟨_ | _, s⟩ := p <;> rfl

theorem readMapped_frame (e : TlbEntry) (pa va : Word) (n : Size) (s : State) :
    ReadFrame s (readMapped e pa va n s).2 := by
  unfold readMapped
  dsimp only
  split
  · split
    · exact ReadFrame.refl s
    · split <;> rw [Reply.ofBus_snd]
      · exact cacheRefillAndRead_frame _ _ _ _
      · exact busRead_frame _ _ _
  · rw [Reply.ofBus_snd]; exact busRead_frame _ _ _

/-- A virtual read leaves everything but the TLB, the cache, the bus record and the draws as it was. -/
theorem memRead_frame {va : Word} {n : Size} {s : State} {m : Reply × State} (h : memRead va n s = .next m) :
    ReadFrame s m.2 := by
  unfold memRead at h
  obtain ⟨p, hp, h⟩ := andThen_eq_next.mp h
  have hl := (locate_eq_next hp).1
  split at h <;> cases h
  · exact hl
  · rw [Reply.ofBus_snd]; exact hl.trans (busRead_frame _ _ _)
  · exact hl.trans (readMapped_frame _ _ _ _ _)

/-- A virtual read answers when control bits S and R are not both 1. -/
theorem memRead_answers {s : State} (h : s.PermissionsDefined) (va : Word) (n : Size) :
    ∃ m, memRead va n s = .next m := by
  obtain ⟨p, hp⟩ := locate_answers h va n false
  unfold memRead
  rw [hp, andThen_next]
  split <;> exact ⟨_, rfl⟩

/-! ### Virtual write -/

theorem cacheUpdateOnWrite_frame (ta : Word) (n : Size) (v : Word) (s : State) :
    ReadFrame s (cacheUpdateOnWrite ta n v s) := rfl

theorem writeThrough_frame (ta pa : Word) (n : Size) (v : Word) (f : FaultCode) (s : State) :
    WriteFrame s (writeThrough ta pa n v f s).2 := by
  have h := busWrite_frame pa n v s
  unfold writeThrough
  split <;> rename_i heq <;> rw [heq] at h
  · exact h.trans (cacheUpdateOnWrite_frame _ _ _ _).writeFrame
  · exact h

theorem writeThrough_mem (ta pa : Word) (n : Size) (v : Word) (f : FaultCode) (s : State) :
    (writeThrough ta pa n v f s).2.mem = s.mem.writeSize pa.toNat n v ∨ (writeThrough ta pa n v f s).2.mem = s.mem := by
  have h := busWrite_mem pa n v s
  unfold writeThrough
  split <;> rename_i heq <;> rw [heq] at h
  · exact h
  · exact h

/-- A virtual write leaves everything but the TLB, the cache, the bus record, the draws, the memory and the halted flag
as it was. -/
theorem memWrite_frame {va : Word} {n : Size} {v : Word} {s : State} {m : Option FaultCode × State}
    (h : memWrite va n v s = .next m) : WriteFrame s m.2 := by
  unfold memWrite at h
  obtain ⟨p, hp, h⟩ := andThen_eq_next.mp h
  have hl := (locate_eq_next hp).1.writeFrame
  split at h <;> cases h
  · exact hl
  · exact hl.trans (writeThrough_frame _ _ _ _ _ _)
  · exact hl.trans (writeThrough_frame _ _ _ _ _ _)

/-- The memory after a virtual write: the located bytes written, or nothing. -/
theorem memWrite_mem {va : Word} {n : Size} {v : Word} {s : State} {m : Option FaultCode × State}
    (h : memWrite va n v s = .next m) :
    ∃ p, locate va n true s = .next p ∧
      (m.2.mem = s.mem ∨ ∃ pa, p.1.target = some pa ∧ m.2.mem = s.mem.writeSize pa.toNat n v) := by
  unfold memWrite at h
  obtain ⟨p, hp, h⟩ := andThen_eq_next.mp h
  have hm := (locate_eq_next hp).1.mem_eq
  refine ⟨p, hp, ?_⟩
  split at h <;> cases h
  · exact .inl hm
  · rename_i pa heq
    rcases writeThrough_mem (tagAddress p.2.params (accessAddress va n) pa) pa n v (nonMmuError va) p.2 with h | h
    · exact .inr ⟨pa, by rw [heq]; rfl, by rw [h, hm]⟩
    · exact .inl (h.trans hm)
  · rename_i e pa heq
    rcases writeThrough_mem (tagAddress p.2.params (accessAddress va n) pa) pa n v (otherBusError e va) p.2 with h | h
    · exact .inr ⟨pa, by rw [heq]; rfl, by rw [h, hm]⟩
    · exact .inl (h.trans hm)

/-- A virtual write answers when control bits S and R are not both 1. -/
theorem memWrite_answers {s : State} (h : s.PermissionsDefined) (va : Word) (n : Size) (v : Word) :
    ∃ m, memWrite va n v s = .next m := by
  obtain ⟨p, hp⟩ := locate_answers h va n true
  unfold memWrite
  rw [hp, andThen_next]
  split <;> exact ⟨_, rfl⟩

/-- A write of `n` bytes that finds a place leaves the bytes outside it alone, whatever it answers. -/
theorem memWrite_outside {va : Word} {n : Size} {v : Word} {s : State} {m : Option FaultCode × State}
    (h : memWrite va n v s = .next m) {p : Located × State} (hp : locate va n true s = .next p) {a : Nat}
    (ha : ∀ pa, p.1.target = some pa → OutsideAccess pa n a) : m.2.mem.readByte a = s.mem.readByte a := by
  obtain ⟨p', hp', hm⟩ := memWrite_mem h
  rw [hp] at hp'
  cases hp'
  rcases hm with hm | ⟨pa, hpa, hm⟩
  · rw [hm]
  · rw [hm, Memory.readByte_writeSize_outside _ _ (ha pa hpa)]

end Sys2Proof.Machine
end

