-- ==== Sys2Proof/Laws/Banks.lean ====
section
/-! SUPPORT. What a bank switch, an exception entry and a status-word write can do. -/

namespace Sys2Proof.Machine

variable {s : State}

/-! ### Bank switch -/

@[simp] theorem switchBank_self (s : State) : switchBank s.curBank s = s := by simp [switchBank]

@[simp] theorem switchBank_curBank (nb : Bank) (s : State) : (switchBank nb s).curBank = nb := by
  unfold switchBank
  split
  · simp_all
  · rfl

/-- A bank switch touches the live registers, the shadows and the bank, nothing else. -/
theorem switchBank_frame (nb : Bank) (s : State) : switchBank nb s = { s with
    regs := (switchBank nb s).regs, curBank := (switchBank nb s).curBank, bankR13 := (switchBank nb s).bankR13
    bankR14 := (switchBank nb s).bankR14, fiqShadow0 := (switchBank nb s).fiqShadow0
    fiqShadow1 := (switchBank nb s).fiqShadow1 } := by
  unfold switchBank exchangeR8toR12
  split
  · rfl
  · split
    · rfl
    · split <;> rfl

@[simp] theorem switchBank_cpsr (nb : Bank) (s : State) : (switchBank nb s).cpsr = s.cpsr := by rw [switchBank_frame]
@[simp] theorem switchBank_spsr (nb : Bank) (s : State) : (switchBank nb s).spsr = s.spsr := by rw [switchBank_frame]
@[simp] theorem switchBank_cp15 (nb : Bank) (s : State) : (switchBank nb s).cp15 = s.cp15 := by rw [switchBank_frame]
@[simp] theorem switchBank_tlb (nb : Bank) (s : State) : (switchBank nb s).tlb = s.tlb := by rw [switchBank_frame]
@[simp] theorem switchBank_tlbNext (nb : Bank) (s : State) : (switchBank nb s).tlbNext = s.tlbNext := by
  rw [switchBank_frame]
@[simp] theorem switchBank_cache (nb : Bank) (s : State) : (switchBank nb s).cache = s.cache := by rw [switchBank_frame]
@[simp] theorem switchBank_pf (nb : Bank) (s : State) : (switchBank nb s).pf = s.pf := by rw [switchBank_frame]
@[simp] theorem switchBank_faultPending (nb : Bank) (s : State) : (switchBank nb s).faultPending = s.faultPending := by
  rw [switchBank_frame]
@[simp] theorem switchBank_halted (nb : Bank) (s : State) : (switchBank nb s).halted = s.halted := by
  rw [switchBank_frame]
@[simp] theorem switchBank_params (nb : Bank) (s : State) : (switchBank nb s).params = s.params := by
  rw [switchBank_frame]
@[simp] theorem switchBank_processorId (nb : Bank) (s : State) : (switchBank nb s).processorId = s.processorId := by
  rw [switchBank_frame]
@[simp] theorem switchBank_mem (nb : Bank) (s : State) : (switchBank nb s).mem = s.mem := by rw [switchBank_frame]
@[simp] theorem switchBank_bus (nb : Bank) (s : State) : (switchBank nb s).bus = s.bus := by rw [switchBank_frame]
@[simp] theorem switchBank_busTrace (nb : Bank) (s : State) : (switchBank nb s).busTrace = s.busTrace := by
  rw [switchBank_frame]
@[simp] theorem switchBank_schedule (nb : Bank) (s : State) : (switchBank nb s).schedule = s.schedule := by
  rw [switchBank_frame]
@[simp] theorem switchBank_draws (nb : Bank) (s : State) : (switchBank nb s).draws = s.draws := by rw [switchBank_frame]

/-- The word a shadow slot holds for one of R8 to R12. -/
def Shadow.word (w : Shadow) (r : Reg) : Word :=
  if r = 8 then w.r8 else if r = 9 then w.r9 else if r = 10 then w.r10 else if r = 11 then w.r11 else w.r12

theorem State.reg_setR8to12 (s : State) (w : Shadow) (r : Reg) :
    (s.setR8to12 w).reg r = if 8 ≤ r ∧ r ≤ 12 then w.word r else s.reg r := by
  simp only [State.setR8to12, State.reg_setReg, Shadow.word]
  fin_cases r <;> simp

@[simp] theorem Shadow.word_r8to12 (s : State) {r : Reg} (h : 8 ≤ r ∧ r ≤ 12) : s.r8to12.word r = s.reg r := by
  obtain ⟨h1, h2⟩ := h
  simp only [Shadow.word, State.r8to12]
  fin_cases r <;> simp_all

theorem Shadow.ext_word {w w' : Shadow} (h : ∀ r : Reg, 8 ≤ r → r ≤ 12 → w.word r = w'.word r) : w = w' := by
  have h8 := h 8 (by decide) (by decide)
  have h9 := h 9 (by decide) (by decide)
  have h10 := h 10 (by decide) (by decide)
  have h11 := h 11 (by decide) (by decide)
  have h12 := h 12 (by decide) (by decide)
  cases w
  cases w'
  simp_all [Shadow.word]

@[simp] theorem State.r8to12_setR8to12 (s : State) (w : Shadow) : (s.setR8to12 w).r8to12 = w := by
  apply Shadow.ext_word
  intro r h1 h2
  rw [Shadow.word_r8to12 _ ⟨h1, h2⟩, State.reg_setR8to12, if_pos ⟨h1, h2⟩]

theorem reg_exchangeR13R14 {nb : Bank} (h : nb ≠ s.curBank) (r : Reg) : (exchangeR13R14 nb s).reg r =
    if r = 13 then s.bankR13.get nb else if r = 14 then s.bankR14.get nb else s.reg r := by
  simp only [exchangeR13R14, State.reg_setReg, State.setBankR14_bankR13, State.setBankR13_bankR13,
    State.setBankR14_bankR14, BankWords.get_put_of_ne _ _ h, State.reg_setBankR13,
    State.reg_setBankR14]
  by_cases h13 : r = 13 <;> by_cases h14 : r = 14 <;> simp_all

/-- The live registers after a switch to another bank (R25). -/
theorem reg_switchBank {nb : Bank} (h : nb ≠ s.curBank) (r : Reg) : (switchBank nb s).reg r =
    if r = 13 then s.bankR13.get nb else if r = 14 then s.bankR14.get nb
    else if (8 ≤ r ∧ r ≤ 12) ∧ nb = .exc .fiq then s.fiqShadow1.word r
    else if (8 ≤ r ∧ r ≤ 12) ∧ s.curBank = .exc .fiq then s.fiqShadow0.word r
    else s.reg r := by
  have hc : (exchangeR13R14 nb s).curBank = s.curBank := rfl
  have h0 : (exchangeR13R14 nb s).fiqShadow0 = s.fiqShadow0 := rfl
  have h1 : (exchangeR13R14 nb s).fiqShadow1 = s.fiqShadow1 := rfl
  simp only [switchBank, if_neg h, State.reg_setCurBank, exchangeR8toR12, hc, h0, h1]
  by_cases hf : nb = .exc .fiq
  · rw [if_pos hf, State.reg_setR8to12, State.reg_setFiqShadow0, reg_exchangeR13R14 h]
    fin_cases r <;> simp [hf]
  · rw [if_neg hf]
    by_cases hg : s.curBank = .exc .fiq
    · rw [if_pos hg, State.reg_setR8to12, State.reg_setFiqShadow1, reg_exchangeR13R14 h]
      fin_cases r <;> simp [hf, hg]
    · rw [if_neg hg, reg_exchangeR13R14 h]
      simp [hf, hg]

/-- R0 to R7 and the program counter are no bank's. -/
theorem reg_switchBank_unbanked (nb : Bank) (s : State) {r : Reg} (h : r < 8 ∨ r = 15) :
    (switchBank nb s).reg r = s.reg r := by
  by_cases hb : nb = s.curBank
  · subst hb; simp
  · rw [reg_switchBank hb]
    fin_cases r <;> simp_all

@[simp] theorem pc_switchBank (nb : Bank) (s : State) : (switchBank nb s).pc = s.pc :=
  reg_switchBank_unbanked nb s (.inr rfl)

theorem exchangeR8toR12_bankR13 (nb : Bank) (s : State) : (exchangeR8toR12 nb s).bankR13 = s.bankR13 := by
  unfold exchangeR8toR12
  split
  · rfl
  · split <;> rfl

theorem exchangeR8toR12_bankR14 (nb : Bank) (s : State) : (exchangeR8toR12 nb s).bankR14 = s.bankR14 := by
  unfold exchangeR8toR12
  split
  · rfl
  · split <;> rfl

theorem switchBank_bankR13 {nb : Bank} (h : nb ≠ s.curBank) :
    (switchBank nb s).bankR13 = s.bankR13.put (s.reg 13) s.curBank := by
  simp only [switchBank, if_neg h, State.setCurBank_bankR13, exchangeR8toR12_bankR13]
  rfl

theorem switchBank_bankR14 {nb : Bank} (h : nb ≠ s.curBank) :
    (switchBank nb s).bankR14 = s.bankR14.put (s.reg 14) s.curBank := by
  simp only [switchBank, if_neg h, State.setCurBank_bankR14, exchangeR8toR12_bankR14]
  rfl

theorem switchBank_fiqShadow0 {nb : Bank} (h : nb ≠ s.curBank) :
    (switchBank nb s).fiqShadow0 = if nb = .exc .fiq then s.r8to12 else s.fiqShadow0 := by
  simp only [switchBank, if_neg h, exchangeR8toR12]
  split
  · apply Shadow.ext_word
    intro r h1 h2
    rw [Shadow.word_r8to12 _ ⟨h1, h2⟩]
    show (exchangeR13R14 nb s).r8to12.word r = _
    rw [Shadow.word_r8to12 _ ⟨h1, h2⟩, reg_exchangeR13R14 h]
    fin_cases r <;> simp_all
  · split <;> rfl

theorem switchBank_fiqShadow1 {nb : Bank} (h : nb ≠ s.curBank) :
    (switchBank nb s).fiqShadow1 = if s.curBank = .exc .fiq then s.r8to12 else s.fiqShadow1 := by
  have hc : (exchangeR13R14 nb s).curBank = s.curBank := rfl
  simp only [switchBank, if_neg h, exchangeR8toR12, hc]
  split
  · rename_i hf
    rw [if_neg (fun e => h (hf.trans e.symm))]
    rfl
  · split
    · apply Shadow.ext_word
      intro r h1 h2
      rw [Shadow.word_r8to12 _ ⟨h1, h2⟩]
      show (exchangeR13R14 nb s).r8to12.word r = _
      rw [Shadow.word_r8to12 _ ⟨h1, h2⟩, reg_exchangeR13R14 h]
      fin_cases r <;> simp_all
    · rfl

/-- A bank switch commutes with a write of the status word. -/
theorem switchBank_setCpsr (nb : Bank) (s : State) (v : Word) :
    switchBank nb (s.setCpsr v) = (switchBank nb s).setCpsr v := by
  by_cases h : nb = s.curBank
  · simp [switchBank, h]
  · by_cases hf : nb = .exc .fiq
    · simp only [switchBank, State.setCpsr_curBank, if_neg h, exchangeR8toR12, if_pos hf]
      rfl
    · by_cases hg : s.curBank = .exc .fiq
      · have h1 : (exchangeR13R14 nb s).curBank = .exc .fiq := hg
        have h2 : (exchangeR13R14 nb (s.setCpsr v)).curBank = .exc .fiq := hg
        simp only [switchBank, State.setCpsr_curBank, if_neg h, exchangeR8toR12, if_neg hf, if_pos h1, if_pos h2]
        rfl
      · have h1 : ¬ (exchangeR13R14 nb s).curBank = .exc .fiq := hg
        have h2 : ¬ (exchangeR13R14 nb (s.setCpsr v)).curBank = .exc .fiq := hg
        simp only [switchBank, State.setCpsr_curBank, if_neg h, exchangeR8toR12, if_neg hf, if_neg h1, if_neg h2]
        rfl

/-- A bank switch commutes with a write of a saved status word. -/
theorem switchBank_setSpsr (nb : Bank) (s : State) (b : ExcBank) (v : Word) :
    switchBank nb (s.setSpsr b v) = (switchBank nb s).setSpsr b v := by
  by_cases h : nb = s.curBank
  · simp [switchBank, h]
  · by_cases hf : nb = .exc .fiq
    · simp only [switchBank, State.setSpsr_curBank, if_neg h, exchangeR8toR12, if_pos hf]
      rfl
    · by_cases hg : s.curBank = .exc .fiq
      · have h1 : (exchangeR13R14 nb s).curBank = .exc .fiq := hg
        have h2 : (exchangeR13R14 nb (s.setSpsr b v)).curBank = .exc .fiq := hg
        simp only [switchBank, State.setSpsr_curBank, if_neg h, exchangeR8toR12, if_neg hf, if_pos h1, if_pos h2]
        rfl
      · have h1 : ¬ (exchangeR13R14 nb s).curBank = .exc .fiq := hg
        have h2 : ¬ (exchangeR13R14 nb (s.setSpsr b v)).curBank = .exc .fiq := hg
        simp only [switchBank, State.setSpsr_curBank, if_neg h, exchangeR8toR12, if_neg hf, if_neg h1, if_neg h2]
        rfl

/-! ### Modes -/

@[simp] theorem Mode.ofBits_bits (m : Mode) : Mode.ofBits m.bits = some m := by cases m <;> decide

theorem Mode.bits_of_ofBits {x : BitVec 5} {m : Mode} (h : Mode.ofBits x = some m) : m.bits = x := by
  unfold Mode.ofBits at h
  repeat' split at h
  all_goals first | (cases h; simp_all [Mode.bits]) | cases h

@[simp] theorem ExcBank.bank_mode (b : ExcBank) : b.mode.bank = .exc b := by cases b <;> rfl

theorem low_of_append {n m : Nat} (x : BitVec n) (y : BitVec m) : (x ++ y).extractLsb' 0 m = y := by
  ext i hi
  simp [BitVec.getLsbD_append, hi]

theorem high_of_append {n m : Nat} (x : BitVec n) (y : BitVec m) : (x ++ y).extractLsb' m n = x := by
  ext i hi
  simp [BitVec.getLsbD_append, hi]

/-- The mode field of a status word whose mode is replaced. -/
@[simp] theorem withMode_mode (cpsr : Word) (m : Mode) : (withMode cpsr m).extractLsb' 0 5 = m.bits := low_of_append _ _

/-- The other bits of a status word whose mode is replaced. -/
@[simp] theorem withMode_rest (cpsr : Word) (m : Mode) : (withMode cpsr m).extractLsb' 5 27 = cpsr.extractLsb' 5 27 :=
  high_of_append _ _

/-! ### Exception entry (R322) -/

/-- The entry as updates of the state with the target bank switched in. -/
theorem raiseException_eq (b : ExcBank) (savedPC vectorPC : Word) (s : State) : raiseException b savedPC vectorPC s =
    (((((switchBank (.exc b) s).setSpsr b s.cpsr).setCpsr (withMode s.cpsr b.mode)).setPf .empty).setReg 14
      savedPC).setReg pcReg vectorPC := by
  simp only [raiseException, switchMode, ExcBank.bank_mode, flushPrefetch, switchBank_setCpsr, switchBank_setSpsr,
    State.setSpsr_cpsr]

/-- The status word after an entry. -/
@[simp] theorem raiseException_cpsr (b : ExcBank) (savedPC vectorPC : Word) (s : State) :
    (raiseException b savedPC vectorPC s).cpsr = withMode s.cpsr b.mode := by
  simp [raiseException, switchMode, flushPrefetch]

@[simp] theorem raiseException_mode (b : ExcBank) (savedPC vectorPC : Word) (s : State) :
    (raiseException b savedPC vectorPC s).mode = some b.mode := by
  simp [State.mode, State.modeBits]

@[simp] theorem raiseException_curBank (b : ExcBank) (savedPC vectorPC : Word) (s : State) :
    (raiseException b savedPC vectorPC s).curBank = .exc b := by
  simp [raiseException, switchMode, flushPrefetch]

@[simp] theorem raiseException_spsr (b : ExcBank) (savedPC vectorPC : Word) (s : State) :
    (raiseException b savedPC vectorPC s).spsr = s.spsr.put s.cpsr b := by
  simp [raiseException, switchMode, flushPrefetch]

@[simp] theorem raiseException_pf (b : ExcBank) (savedPC vectorPC : Word) (s : State) :
    (raiseException b savedPC vectorPC s).pf = .empty := by
  simp [raiseException, switchMode, flushPrefetch]

@[simp] theorem raiseException_pc (b : ExcBank) (savedPC vectorPC : Word) (s : State) :
    (raiseException b savedPC vectorPC s).pc = vectorPC := by
  simp [raiseException]

end Sys2Proof.Machine
end

