-- ==== Sys2Proof/Laws/Hits.lean ====
section
/-! SUPPORT. What the TLB answers after an installation and the cache after a refill, and where a mapped access goes. -/

namespace Sys2Proof.Machine

/-- A search for what nothing satisfied finds the one element put in that does. -/
theorem find?_set_of_none {α : Type} {p : α → Bool} : ∀ {l : List α} (i : Nat) (a : α), l.find? p = none →
    p a = true → i < l.length → (l.set i a).find? p = some a
  | [], _, _, _, _, hi => by simp at hi
  | x :: l, 0, a, _, ha, _ => by simp [ha]
  | x :: l, i + 1, a, h, ha, hi => by
    simp only [List.find?_cons] at h
    split at h
    · cases h
    · rename_i hx
      simp only [List.set_cons_succ, List.find?_cons, hx]
      exact find?_set_of_none i a h ha (by simpa using hi)

/-! ### The TLB -/

theorem newEntry_hits {mask : Word} (h : mask ≠ 0#32) (va l1 l2 : Word) : (newEntry mask va l1 l2).hits va = true := by
  simp [TlbEntry.hits, newEntry, h]

/-- The entry a walk makes answers for the address walked. -/
theorem tableWalk_hits {va : Word} {s s1 : State} {e : TlbEntry} (h : tableWalk va s = (.ok e, s1)) :
    e.hits va = true := by
  unfold tableWalk walkLevel2 at h
  repeat' split at h
  all_goals cases h
  all_goals exact newEntry_hits (by decide) _ _ _

theorem tlbLookup_install {va : Word} {s : State} {e : TlbEntry} (h : tlbLookup s.tlb va = none)
    (he : e.hits va = true) : tlbLookup (tlbInstall e s).tlb va = some e := by
  unfold tlbLookup at *
  simp only [tlbInstall, State.setTlbNext_tlb, State.setTlb_tlb, Vector.toList_set]
  exact find?_set_of_none _ _ h he (by simp)

/-- After a translation the TLB holds its answer. -/
theorem translate_again {va : Word} {s s1 : State} {e : TlbEntry} (h : translate true va s = (.ok e, s1)) :
    tlbLookup s1.tlb va = some e := by
  unfold translate at h
  split at h
  · cases h; assumption
  · rename_i hn
    split at h
    · cases h
    · rename_i e' s' hw
      have h1 := (tableWalk_tlb va s).1
      rw [hw] at h1
      cases h
      exact tlbLookup_install (by rw [h1]; exact hn) (tableWalk_hits hw)

/-- The permission check reads coprocessor 15 and the mode only. -/
theorem checkAccess_congr {s t : State} (h1 : t.cp15 = s.cp15) (h2 : t.cpsr = s.cpsr) (e : TlbEntry) (va : Word)
    (isWrite : Bool) : checkAccess e va isWrite t = checkAccess e va isWrite s := by
  unfold checkAccess State.priv State.modeBits
  rw [h1, h2]

/-- A mapped access passed the alignment check, the translation and the permission check. -/
theorem locate_mapped {va : Word} {n : Size} {isWrite : Bool} {s s0 : State} {e : TlbEntry} {pa : Word}
    (h : locate va n isWrite s = .next (.mapped e pa, s0)) : alignmentFault va n s = false ∧ s.mmuOn = true ∧
      translate true (accessAddress va n) s = (.ok e, s0) ∧ checkAccess e va isWrite s0 = .permitted ∧
      pa = e.physAddr (accessAddress va n) := by
  unfold locate at h
  repeat' split at h
  all_goals cases h
  simp_all

/-- An access that hits the TLB and is permitted changes nothing on its way. -/
theorem locate_of_hit {va : Word} {n : Size} {isWrite : Bool} {s : State} {e : TlbEntry}
    (ha : alignmentFault va n s = false) (hm : s.mmuOn = true) (ht : tlbLookup s.tlb (accessAddress va n) = some e)
    (hc : checkAccess e va isWrite s = .permitted) :
    locate va n isWrite s = .next (.mapped e (e.physAddr (accessAddress va n)), s) := by
  have : translate true (accessAddress va n) s = (.ok e, s) := by simp [translate, ht]
  simp [locate, ha, hm, this, hc]

/-! ### The cache -/

/-- After a refill that followed a miss the cache answers with the new line. -/
theorem cacheLookup_putLine {c : Cache} {a : Word} {l : CacheLine} (h : cacheLookup c a = none)
    (hl : l.hits (tagOf a) = true) (slot : Fin 128) : cacheLookup (putLine c (setOf a) slot l) a = some l := by
  unfold cacheLookup at *
  have : linesOf (putLine c (setOf a) slot l) (setOf a) = (linesOf c (setOf a)).set slot l := by
    simp [linesOf, putLine, Vector.get_eq_getElem]
  rw [this, Vector.toList_set]
  exact find?_set_of_none _ _ h hl (by simp)

end Sys2Proof.Machine
end

