-- ==== Sys2Proof/Laws/PerInstr.lean ====
section
/-! SUPPORT. The family TableRow: the word of every instruction has the bits its row of the opcode table fixes. -/

namespace Sys2Proof

/-- A mask over two fields is a mask over each. -/
theorem append_and_eq {m n : Nat} {x : BitVec m} {y : BitVec n} {mask value : BitVec (m + n)}
    (hx : x &&& mask.extractLsb' n m = value.extractLsb' n m)
    (hy : y &&& mask.extractLsb' 0 n = value.extractLsb' 0 n) :
    (x ++ y) &&& mask = value := by
  have h : ∀ z : BitVec (m + n), z = z.extractLsb' n m ++ z.extractLsb' 0 n := by
    intro z
    rw [BitVec.extractLsb'_append_extractLsb'_eq_extractLsb' (by omega)]
    simp
  rw [h mask, BitVec.and_append, hx, hy, ← h value]

end Sys2Proof

namespace Sys2Proof.Laws.TableRow

open Sys2Proof

/-- The fixed bits of the instruction's row, in its word. -/
def Statement (i : Instr) : Prop := encode i &&& i.tableRow.1 = i.tableRow.2

theorem and (c : Cond) (sf : Bool) (rn rd : Reg) (op2 : Operand2) :
    Statement (.and c sf rn rd op2) := by
  show (encodeDp c 0b0000#4 sf (Reg.bits rn) (Reg.bits rd) op2) &&& 0x0DE00000#32 = 0x00000000#32
  unfold encodeDp
  repeat' with_reducible apply append_and_eq
  all_goals simp

theorem eor (c : Cond) (sf : Bool) (rn rd : Reg) (op2 : Operand2) :
    Statement (.eor c sf rn rd op2) := by
  show (encodeDp c 0b0001#4 sf (Reg.bits rn) (Reg.bits rd) op2) &&& 0x0DE00000#32 = 0x00200000#32
  unfold encodeDp
  repeat' with_reducible apply append_and_eq
  all_goals simp

theorem sub (c : Cond) (sf : Bool) (rn rd : Reg) (op2 : Operand2) :
    Statement (.sub c sf rn rd op2) := by
  show (encodeDp c 0b0010#4 sf (Reg.bits rn) (Reg.bits rd) op2) &&& 0x0DE00000#32 = 0x00400000#32
  unfold encodeDp
  repeat' with_reducible apply append_and_eq
  all_goals simp

theorem rsb (c : Cond) (sf : Bool) (rn rd : Reg) (op2 : Operand2) :
    Statement (.rsb c sf rn rd op2) := by
  show (encodeDp c 0b0011#4 sf (Reg.bits rn) (Reg.bits rd) op2) &&& 0x0DE00000#32 = 0x00600000#32
  unfold encodeDp
  repeat' with_reducible apply append_and_eq
  all_goals simp

theorem add (c : Cond) (sf : Bool) (rn rd : Reg) (op2 : Operand2) :
    Statement (.add c sf rn rd op2) := by
  show (encodeDp c 0b0100#4 sf (Reg.bits rn) (Reg.bits rd) op2) &&& 0x0DE00000#32 = 0x00800000#32
  unfold encodeDp
  repeat' with_reducible apply append_and_eq
  all_goals simp

theorem adc (c : Cond) (sf : Bool) (rn rd : Reg) (op2 : Operand2) :
    Statement (.adc c sf rn rd op2) := by
  show (encodeDp c 0b0101#4 sf (Reg.bits rn) (Reg.bits rd) op2) &&& 0x0DE00000#32 = 0x00A00000#32
  unfold encodeDp
  repeat' with_reducible apply append_and_eq
  all_goals simp

theorem sbc (c : Cond) (sf : Bool) (rn rd : Reg) (op2 : Operand2) :
    Statement (.sbc c sf rn rd op2) := by
  show (encodeDp c 0b0110#4 sf (Reg.bits rn) (Reg.bits rd) op2) &&& 0x0DE00000#32 = 0x00C00000#32
  unfold encodeDp
  repeat' with_reducible apply append_and_eq
  all_goals simp

theorem rsc (c : Cond) (sf : Bool) (rn rd : Reg) (op2 : Operand2) :
    Statement (.rsc c sf rn rd op2) := by
  show (encodeDp c 0b0111#4 sf (Reg.bits rn) (Reg.bits rd) op2) &&& 0x0DE00000#32 = 0x00E00000#32
  unfold encodeDp
  repeat' with_reducible apply append_and_eq
  all_goals simp

theorem tst (c : Cond) (rn : Reg) (sbz : BitVec 4) (op2 : Operand2) :
    Statement (.tst c rn sbz op2) := by
  show (encodeDp c 0b1000#4 true (Reg.bits rn) sbz op2) &&& 0x0DF00000#32 = 0x01100000#32
  unfold encodeDp
  repeat' with_reducible apply append_and_eq
  all_goals simp

theorem teq (c : Cond) (rn : Reg) (sbz : BitVec 4) (op2 : Operand2) :
    Statement (.teq c rn sbz op2) := by
  show (encodeDp c 0b1001#4 true (Reg.bits rn) sbz op2) &&& 0x0DF00000#32 = 0x01300000#32
  unfold encodeDp
  repeat' with_reducible apply append_and_eq
  all_goals simp

theorem cmp (c : Cond) (rn : Reg) (sbz : BitVec 4) (op2 : Operand2) :
    Statement (.cmp c rn sbz op2) := by
  show (encodeDp c 0b1010#4 true (Reg.bits rn) sbz op2) &&& 0x0DF00000#32 = 0x01500000#32
  unfold encodeDp
  repeat' with_reducible apply append_and_eq
  all_goals simp

theorem cmn (c : Cond) (rn : Reg) (sbz : BitVec 4) (op2 : Operand2) :
    Statement (.cmn c rn sbz op2) := by
  show (encodeDp c 0b1011#4 true (Reg.bits rn) sbz op2) &&& 0x0DF00000#32 = 0x01700000#32
  unfold encodeDp
  repeat' with_reducible apply append_and_eq
  all_goals simp

theorem orr (c : Cond) (sf : Bool) (rn rd : Reg) (op2 : Operand2) :
    Statement (.orr c sf rn rd op2) := by
  show (encodeDp c 0b1100#4 sf (Reg.bits rn) (Reg.bits rd) op2) &&& 0x0DE00000#32 = 0x01800000#32
  unfold encodeDp
  repeat' with_reducible apply append_and_eq
  all_goals simp

theorem mov (c : Cond) (sf : Bool) (sbz : BitVec 4) (rd : Reg) (op2 : Operand2) :
    Statement (.mov c sf sbz rd op2) := by
  show (encodeDp c 0b1101#4 sf sbz (Reg.bits rd) op2) &&& 0x0DE00000#32 = 0x01A00000#32
  unfold encodeDp
  repeat' with_reducible apply append_and_eq
  all_goals simp

theorem bic (c : Cond) (sf : Bool) (rn rd : Reg) (op2 : Operand2) :
    Statement (.bic c sf rn rd op2) := by
  show (encodeDp c 0b1110#4 sf (Reg.bits rn) (Reg.bits rd) op2) &&& 0x0DE00000#32 = 0x01C00000#32
  unfold encodeDp
  repeat' with_reducible apply append_and_eq
  all_goals simp

theorem mvn (c : Cond) (sf : Bool) (sbz : BitVec 4) (rd : Reg) (op2 : Operand2) :
    Statement (.mvn c sf sbz rd op2) := by
  show (encodeDp c 0b1111#4 sf sbz (Reg.bits rd) op2) &&& 0x0DE00000#32 = 0x01E00000#32
  unfold encodeDp
  repeat' with_reducible apply append_and_eq
  all_goals simp

theorem mul (c : Cond) (sf : Bool) (rd : Reg) (sbz : BitVec 4) (rs rm : Reg) :
    Statement (.mul c sf rd sbz rs rm) := by
  show (encodeMultiply c 0#1 sf rd sbz rs rm) &&& 0x0FE000F0#32 = 0x00000090#32
  unfold encodeMultiply
  repeat' with_reducible apply append_and_eq
  all_goals simp

theorem mla (c : Cond) (sf : Bool) (rd rn rs rm : Reg) :
    Statement (.mla c sf rd rn rs rm) := by
  show (encodeMultiply c 1#1 sf rd (Reg.bits rn) rs rm) &&& 0x0FE000F0#32 = 0x00200090#32
  unfold encodeMultiply
  repeat' with_reducible apply append_and_eq
  all_goals simp

theorem swp (c : Cond) (rn rd rm : Reg) :
    Statement (.swp c rn rd rm) := by
  show (encodeSwap c 0#1 rn rd rm) &&& 0x0FF00FF0#32 = 0x01000090#32
  unfold encodeSwap
  repeat' with_reducible apply append_and_eq
  all_goals simp

theorem swpb (c : Cond) (rn rd rm : Reg) :
    Statement (.swpb c rn rd rm) := by
  show (encodeSwap c 1#1 rn rd rm) &&& 0x0FF00FF0#32 = 0x01400090#32
  unfold encodeSwap
  repeat' with_reducible apply append_and_eq
  all_goals simp

theorem ldr (c : Cond) (p u w : Bool) (rn rd : Reg) (off : Offset) :
    Statement (.ldr c p u w rn rd off) := by
  show (encodeSingle c 1#1 0#1 p u w rn rd off) &&& 0x0C500000#32 = 0x04100000#32
  unfold encodeSingle
  repeat' with_reducible apply append_and_eq
  all_goals simp

theorem ldrb (c : Cond) (p u w : Bool) (rn rd : Reg) (off : Offset) :
    Statement (.ldrb c p u w rn rd off) := by
  show (encodeSingle c 1#1 1#1 p u w rn rd off) &&& 0x0C500000#32 = 0x04500000#32
  unfold encodeSingle
  repeat' with_reducible apply append_and_eq
  all_goals simp

theorem str (c : Cond) (p u w : Bool) (rn rd : Reg) (off : Offset) :
    Statement (.str c p u w rn rd off) := by
  show (encodeSingle c 0#1 0#1 p u w rn rd off) &&& 0x0C500000#32 = 0x04000000#32
  unfold encodeSingle
  repeat' with_reducible apply append_and_eq
  all_goals simp

theorem strb (c : Cond) (p u w : Bool) (rn rd : Reg) (off : Offset) :
    Statement (.strb c p u w rn rd off) := by
  show (encodeSingle c 0#1 1#1 p u w rn rd off) &&& 0x0C500000#32 = 0x04400000#32
  unfold encodeSingle
  repeat' with_reducible apply append_and_eq
  all_goals simp

theorem ldm (c : Cond) (p u sb w : Bool) (rn : Reg) (list : BitVec 16) :
    Statement (.ldm c p u sb w rn list) := by
  show (encodeBlock c 1#1 p u sb w rn list) &&& 0x0E100000#32 = 0x08100000#32
  unfold encodeBlock
  repeat' with_reducible apply append_and_eq
  all_goals simp

theorem stm (c : Cond) (p u sb w : Bool) (rn : Reg) (list : BitVec 16) :
    Statement (.stm c p u sb w rn list) := by
  show (encodeBlock c 0#1 p u sb w rn list) &&& 0x0E100000#32 = 0x08000000#32
  unfold encodeBlock
  repeat' with_reducible apply append_and_eq
  all_goals simp

theorem b (c : Cond) (off24 : BitVec 24) :
    Statement (.b c off24) := by
  show (c.code ++ 0b101#3 ++ 0#1 ++ off24) &&& 0x0F000000#32 = 0x0A000000#32
  repeat' with_reducible apply append_and_eq
  all_goals simp

theorem bl (c : Cond) (off24 : BitVec 24) :
    Statement (.bl c off24) := by
  show (c.code ++ 0b101#3 ++ 1#1 ++ off24) &&& 0x0F000000#32 = 0x0B000000#32
  repeat' with_reducible apply append_and_eq
  all_goals simp

theorem swi (c : Cond) (comment : BitVec 24) :
    Statement (.swi c comment) := by
  show (c.code ++ 0b1111#4 ++ comment) &&& 0x0F000000#32 = 0x0F000000#32
  repeat' with_reducible apply append_and_eq
  all_goals simp

theorem mrsCpsr (c : Cond) (rd : Reg) :
    Statement (.mrsCpsr c rd) := by
  show (c.code ++ 0b00010#5 ++ 0#1 ++ 0b00#2 ++ 0b1111#4 ++ Reg.bits rd ++ 0#12) &&& 0x0FFF0FFF#32 = 0x010F0000#32
  repeat' with_reducible apply append_and_eq
  all_goals simp

theorem mrsSpsr (c : Cond) (rd : Reg) :
    Statement (.mrsSpsr c rd) := by
  show (c.code ++ 0b00010#5 ++ 1#1 ++ 0b00#2 ++ 0b1111#4 ++ Reg.bits rd ++ 0#12) &&& 0x0FFF0FFF#32 = 0x014F0000#32
  repeat' with_reducible apply append_and_eq
  all_goals simp

theorem msrCpsr (c : Cond) (rm : Reg) :
    Statement (.msrCpsr c rm) := by
  show (c.code ++ 0b00010#5 ++ 0#1 ++ 0b10#2 ++ 0b1001#4 ++ 0b1111#4 ++ 0#8 ++ Reg.bits rm)
    &&& 0x0FFFFFF0#32 = 0x0129F000#32
  repeat' with_reducible apply append_and_eq
  all_goals simp

theorem msrCpsrFlgReg (c : Cond) (rm : Reg) :
    Statement (.msrCpsrFlgReg c rm) := by
  show (c.code ++ 0b00010#5 ++ 0#1 ++ 0b10#2 ++ 0b1000#4 ++ 0b1111#4 ++ 0#8 ++ Reg.bits rm)
    &&& 0x0FFFFFF0#32 = 0x0128F000#32
  repeat' with_reducible apply append_and_eq
  all_goals simp

theorem msrCpsrFlgImm (c : Cond) (rot : BitVec 4) (imm8 : BitVec 8) :
    Statement (.msrCpsrFlgImm c rot imm8) := by
  show (c.code ++ 0b00110#5 ++ 0#1 ++ 0b10#2 ++ 0b1000#4 ++ 0b1111#4 ++ rot ++ imm8)
    &&& 0x0FFFF000#32 = 0x0328F000#32
  repeat' with_reducible apply append_and_eq
  all_goals simp

theorem msrSpsr (c : Cond) (rm : Reg) :
    Statement (.msrSpsr c rm) := by
  show (c.code ++ 0b00010#5 ++ 1#1 ++ 0b10#2 ++ 0b1001#4 ++ 0b1111#4 ++ 0#8 ++ Reg.bits rm)
    &&& 0x0FFFFFF0#32 = 0x0169F000#32
  repeat' with_reducible apply append_and_eq
  all_goals simp

theorem msrSpsrFlgReg (c : Cond) (rm : Reg) :
    Statement (.msrSpsrFlgReg c rm) := by
  show (c.code ++ 0b00010#5 ++ 1#1 ++ 0b10#2 ++ 0b1000#4 ++ 0b1111#4 ++ 0#8 ++ Reg.bits rm)
    &&& 0x0FFFFFF0#32 = 0x0168F000#32
  repeat' with_reducible apply append_and_eq
  all_goals simp

theorem msrSpsrFlgImm (c : Cond) (rot : BitVec 4) (imm8 : BitVec 8) :
    Statement (.msrSpsrFlgImm c rot imm8) := by
  show (c.code ++ 0b00110#5 ++ 1#1 ++ 0b10#2 ++ 0b1000#4 ++ 0b1111#4 ++ rot ++ imm8)
    &&& 0x0FFFF000#32 = 0x0368F000#32
  repeat' with_reducible apply append_and_eq
  all_goals simp

theorem mrc (c : Cond) (opc1 : BitVec 3) (crn : BitVec 4) (rd : Reg) (opc2 : BitVec 3) (crm : BitVec 4) :
    Statement (.mrc c opc1 crn rd opc2 crm) := by
  show (encodeCp15 c 1#1 opc1 crn rd opc2 crm) &&& 0x0F100F10#32 = 0x0E100F10#32
  unfold encodeCp15
  repeat' with_reducible apply append_and_eq
  all_goals simp

theorem mcr (c : Cond) (opc1 : BitVec 3) (crn : BitVec 4) (rd : Reg) (opc2 : BitVec 3) (crm : BitVec 4) :
    Statement (.mcr c opc1 crn rd opc2 crm) := by
  show (encodeCp15 c 0#1 opc1 crn rd opc2 crm) &&& 0x0F100F10#32 = 0x0E000F10#32
  unfold encodeCp15
  repeat' with_reducible apply append_and_eq
  all_goals simp

theorem undefined011x1 (c : Cond) (hi : BitVec 20) (lo : BitVec 4) :
    Statement (.undefined011x1 c hi lo) := by
  show (c.code ++ 0b011#3 ++ hi ++ 1#1 ++ lo) &&& 0x0E000010#32 = 0x06000010#32
  repeat' with_reducible apply append_and_eq
  all_goals simp

theorem undefinedLdcStc (c : Cond) (low25 : BitVec 25) :
    Statement (.undefinedLdcStc c low25) := by
  show (c.code ++ 0b110#3 ++ low25) &&& 0x0E000000#32 = 0x0C000000#32
  repeat' with_reducible apply append_and_eq
  all_goals simp

theorem undefinedCdp (c : Cond) (hi : BitVec 19) (lo : BitVec 4) :
    Statement (.undefinedCdp c hi lo) := by
  show (c.code ++ 0b1110#4 ++ hi ++ 0#1 ++ lo) &&& 0x0F000010#32 = 0x0E000000#32
  repeat' with_reducible apply append_and_eq
  all_goals simp

theorem undefinedMrcMcrNotP15 (c : Cond) (hi : BitVec 12) (cpNum : BitVec 4) (mid : BitVec 3) (lo : BitVec 4) :
    Statement (.undefinedMrcMcrNotP15 c hi cpNum mid lo) := by
  show (c.code ++ 0b1110#4 ++ hi ++ cpNum ++ mid ++ 1#1 ++ lo) &&& 0x0F000010#32 = 0x0E000010#32
  repeat' with_reducible apply append_and_eq
  all_goals simp

theorem uppTrap (c : Cond) (imm : Bool) (opLow : BitVec 2) (f19 f15 : BitVec 4) (f11 : BitVec 12) :
    Statement (.uppTrap c imm opLow f19 f15 f11) := by
  show (c.code ++ 0b00#2 ++ BitVec.ofBool imm ++ 0b10#2 ++ opLow ++ 0#1 ++ f19 ++ f15 ++ f11)
    &&& 0x0D900000#32 = 0x01000000#32
  repeat' with_reducible apply append_and_eq
  all_goals simp

theorem uppBits4And7 (c : Cond) (opLow : BitVec 2) (f19 f15 f8 : BitVec 4) (f5 : BitVec 2) (f0 : BitVec 4) :
    Statement (.uppBits4And7 c opLow f19 f15 f8 f5 f0) := by
  show (c.code ++ 0b00#2 ++ 0#1 ++ 0b10#2 ++ opLow ++ 0#1 ++ f19 ++ f15 ++ f8 ++ 1#1 ++ f5 ++ 1#1 ++ f0)
    &&& 0x0D900000#32 = 0x01000000#32
  repeat' with_reducible apply append_and_eq
  all_goals simp

theorem nvAny (low28 : BitVec 28) :
    Statement (.nvAny low28) := by
  show (0b1111#4 ++ low28) &&& 0xF0000000#32 = 0xF0000000#32
  repeat' with_reducible apply append_and_eq
  all_goals simp

end Sys2Proof.Laws.TableRow
end

