-- ==== Sys2Proof/Tests/Slice0.lean ====
section
/-! SUPPORT. Tests of one decoding or one step each, with results from 95_test_vectors.md and the format rules, and a
witness for the hypotheses of each statement. -/

namespace Sys2Proof.Tests

open Sys2Proof.Machine

/-! ### Helpers -/

/-- The outcome is a next state with the property. -/
def ends (o : Outcome State) (p : State → Bool) : Bool :=
  match o with
  | .next t => p t
  | .fault _ => false
  | .refused _ => false

/-- A state in a mode, executing the instruction at `a`: `R[15] = a + 12` (R27), the flags and registers given. -/
def executing (m : Mode) (a : Word) (nzcv : BitVec 4) (rs : List (Reg × Word)) : State :=
  rs.foldl (fun s p => s.setReg p.1 p.2)
    (State.setReg { State.reset with cpsr := nzcv ++ 0#23 ++ m.bits, curBank := m.bank } 15 (a + 12#32))

/-- In Supervisor mode at 0x100 with flags clear. -/
def svc (rs : List (Reg × Word)) : State := executing .supervisor 0x100#32 0#4 rs

/-- A memory of words. -/
def words (ws : List (Nat × Word)) : Memory := ws.foldl (fun m p => Memory.writeWord m p.1 p.2) []

/-- The memory of the vectors V6. -/
def ram : Memory := words [(0x100, 0x44332211#32), (0x104, 0x88776655#32)]

/-- A state with the memory of V6. -/
def withRam (s : State) : State := s.setMem ram

/-- The setting of V9: MMU on, level-1 word `l1` for 0x12345678 and level-2 word `l2`, User or another mode. -/
def mapped (m : Mode) (control dac l1 l2 : Word) : State :=
  { executing m 0x40#32 0#4 [] with
    cp15 := ⟨control, 0x00010000#32, dac, 0#32, 0#32⟩
    mem := words [(0x0001048C, l1), (0x00020114, l2)] }

/-- A platform with a bus error in one region. -/
def withErrorAt (first last : Word) (s : State) : State := { s with bus := [⟨first, last, .error⟩] }

/-- A state about to run a word that stands at 0x40. -/
def aboutToRun (w : Word) (s : State) : State := placeNextWord w ((s.setReg 15 0x40#32).setPf .empty)

/-- The answer of a read, with what is asked of the state after it. -/
def reads (o : Outcome (Reply × State)) (r : Reply) (p : State → Bool) : Bool :=
  match o with
  | .next (x, t) => decide (x = r) && p t
  | .fault _ => false
  | .refused _ => false

/-! ### WellFormed refuses -/

theorem test_illformed_and_multiply : ¬ WellFormed (.and .al false 0 1 (.bits4And7 2 .lsl 3)) := by decide
theorem test_illformed_eor_multiply : ¬ WellFormed (.eor .al true 0 1 (.bits4And7 2 .lsl 3)) := by decide
theorem test_illformed_cp15_as_undefined : ¬ WellFormed (.undefinedMrcMcrNotP15 .al 0x110#12 15#4 0#3 0#4) := by decide
theorem test_illformed_upp_is_mrs : ¬ WellFormed (.uppTrap .al false 0b10#2 0xF#4 3#4 0#12) := by decide
theorem test_illformed_upp_is_msr_whole : ¬ WellFormed (.uppTrap .al false 0b01#2 0x9#4 0xF#4 0x005#12) := by decide
theorem test_illformed_upp_is_msr_flags : ¬ WellFormed (.uppTrap .al false 0b11#2 0x8#4 0xF#4 0x005#12) := by decide
theorem test_illformed_upp_is_msr_imm : ¬ WellFormed (.uppTrap .al true 0b01#2 0x8#4 0xF#4 0x20F#12) := by decide
theorem test_illformed_upp_is_swap : ¬ WellFormed (.uppBits4And7 .al 0b10#2 2#4 0#4 0#4 0#2 1#4) := by decide
theorem test_illformed_upp_has_bits_4_and_7 : ¬ WellFormed (.uppTrap .al false 0b10#2 2#4 0#4 0x0B1#12) := by decide

/-! ### Decoding: one word for each constructor, from R132 to R140, R147 to R149 and the vectors -/

theorem test_decode_logical :
    decodeWord 0xE21104FF#32 = .and .al true 1 0 (.imm 4#4 0xFF#8) ∧
    decodeWord 0xE0300000#32 = .eor .al true 0 0 (.shiftImm 0 .lsl 0#5) ∧
    decodeWord 0xE3800102#32 = .orr .al false 0 0 (.imm 1#4 2#8) ∧
    decodeWord 0xE3C000FF#32 = .bic .al false 0 0 (.imm 0#4 0xFF#8) ∧
    decodeWord 0xE1B00060#32 = .mov .al true 0#4 0 (.shiftImm 0 .ror 0#5) ∧
    decodeWord 0xE3E00000#32 = .mvn .al false 0#4 0 (.imm 0#4 0#8) := by decide

theorem test_decode_arithmetic :
    decodeWord 0xE0500001#32 = .sub .al true 0 0 (.shiftImm 1 .lsl 0#5) ∧
    decodeWord 0xE2710000#32 = .rsb .al true 1 0 (.imm 0#4 0#8) ∧
    decodeWord 0xE08F0211#32 = .add .al false 15 0 (.shiftReg 1 .lsl 2) ∧
    decodeWord 0xE0B00001#32 = .adc .al true 0 0 (.shiftImm 1 .lsl 0#5) ∧
    decodeWord 0xE0D00001#32 = .sbc .al true 0 0 (.shiftImm 1 .lsl 0#5) ∧
    decodeWord 0xE0F10002#32 = .rsc .al true 1 0 (.shiftImm 2 .lsl 0#5) := by decide

theorem test_decode_compare :
    decodeWord 0xE3100001#32 = .tst .al 0 0#4 (.imm 0#4 1#8) ∧
    decodeWord 0xE1300001#32 = .teq .al 0 0#4 (.shiftImm 1 .lsl 0#5) ∧
    decodeWord 0xE150F001#32 = .cmp .al 0 15#4 (.shiftImm 1 .lsl 0#5) ∧
    decodeWord 0xE1700001#32 = .cmn .al 0 0#4 (.shiftImm 1 .lsl 0#5) := by decide

theorem test_decode_psr :
    decodeWord 0xE10F0000#32 = .mrsCpsr .al 0 ∧ decodeWord 0xE14F3000#32 = .mrsSpsr .al 3 ∧
    decodeWord 0xE129F000#32 = .msrCpsr .al 0 ∧ decodeWord 0xE128F001#32 = .msrCpsrFlgReg .al 1 ∧
    decodeWord 0xE328F20F#32 = .msrCpsrFlgImm .al 2#4 0x0F#8 ∧ decodeWord 0xE169F000#32 = .msrSpsr .al 0 ∧
    decodeWord 0xE168F002#32 = .msrSpsrFlgReg .al 2 ∧ decodeWord 0xE368F20F#32 = .msrSpsrFlgImm .al 2#4 0x0F#8 ∧
    decodeWord 0xE1000000#32 = .uppTrap .al false 0#2 0#4 0#4 0#12 := by decide

theorem test_decode_multiply_swap :
    decodeWord 0xE0000094#32 = .mul .al false 0 0#4 0 4 ∧ decodeWord 0xE0303291#32 = .mla .al true 0 3 2 1 ∧
    decodeWord 0xE1020091#32 = .swp .al 2 0 1 ∧ decodeWord 0xE1420091#32 = .swpb .al 2 0 1 := by decide

theorem test_decode_transfer :
    decodeWord 0xE7910102#32 = .ldr .al true true false 1 0 (.shifted 2 .lsl 2#5) ∧
    decodeWord 0xE5724003#32 = .ldrb .al true false true 2 4 (.imm 3#12) ∧
    decodeWord 0xE4810004#32 = .str .al false true false 1 0 (.imm 4#12) ∧
    decodeWord 0xE5C21001#32 = .strb .al true true false 2 1 (.imm 1#12) ∧
    decodeWord 0xE8FD800F#32 = .ldm .al false true true true 13 0x800F#16 ∧
    decodeWord 0xE94D6000#32 = .stm .al true false true false 13 0x6000#16 := by decide

theorem test_decode_control :
    decodeWord 0x1AFFFFFC#32 = .b .ne 0xFFFFFC#24 ∧ decodeWord 0xEB000001#32 = .bl .al 1#24 ∧
    decodeWord 0xEF000042#32 = .swi .al 0x42#24 ∧ decodeWord 0xEE160F10#32 = .mrc .al 0#3 6#4 0 0#3 0#4 ∧
    decodeWord 0xEE010F10#32 = .mcr .al 0#3 1#4 0 0#3 0#4 ∧ decodeWord 0xF3A00001#32 = .nvAny 0x3A00001#28 := by decide

theorem test_decode_undefined :
    decodeWord 0xE7F000F0#32 = .undefined011x1 .al 0xF8007#20 0#4 ∧
    decodeWord 0xED900100#32 = .undefinedLdcStc .al 0x1900100#25 ∧
    decodeWord 0xEE000000#32 = .undefinedCdp .al 0#19 0#4 ∧
    decodeWord 0xEE110E10#32 = .undefinedMrcMcrNotP15 .al 0x110#12 14#4 0#3 0#4 := by decide

theorem test_decode_bits_4_and_7 : decodeWord 0xE09000B1#32 = .add .al true 0 0 (.bits4And7 1 .lsr 0) := by decide

/-- A look-alike of a swap with bit 8 set, and a word of the later halfword space with opcode 9 and S = 0 (U4). -/
theorem test_decode_upp_bits_4_and_7 :
    decodeWord 0xE1000191#32 = .uppBits4And7 .al 0#2 0#4 0#4 1#4 0#2 1#4 ∧
    decodeWord 0xE12130B2#32 = .uppBits4And7 .al 1#2 1#4 3#4 0#4 1#2 2#4 := by decide

theorem test_decode_bytes : decode [0x00#8, 0x00#8, 0xA0#8, 0xE3#8, 0x55#8] =
    .ok (.mov .al false 0#4 0 (.imm 0#4 0#8), [0x55#8]) := by rfl
theorem test_decode_truncated : decode [0x00#8, 0x00#8, 0xA0#8] = .error (.truncated 3) := by rfl
theorem test_decode_table_word : decodeTableWord 32 0xE10F0000 = some (.mrsCpsr .al 0) := by decide
theorem test_encode_adds : encode (.add .al true 0 0 (.shiftImm 1 .lsl 0#5)) = 0xE0900001#32 := by decide

/-! ### The shifter (V2) -/

theorem test_shift_register_amounts :
    shiftByReg .literal .lsl 0x80000001#32 32#8 false = (0#32, true) ∧
    shiftByReg .literal .lsl 0x40000002#32 31#8 true = (0#32, true) ∧
    shiftByReg .literal .lsl 0x80000001#32 33#8 true = (0#32, false) ∧
    shiftByReg .literal .lsr 0x80000001#32 0#8 false = (0#32, true) ∧
    shiftByReg .literal .asr 0x80000001#32 4#8 false = (0xF8000000#32, false) ∧
    shiftByReg .literal .asr 0x80000001#32 255#8 false = (0xFFFFFFFF#32, true) ∧
    shiftByReg .literal .ror 0x80000001#32 64#8 false = (0x80000001#32, true) ∧
    shiftByReg .literal .ror 0x40000002#32 255#8 true = (0x80000004#32, true) ∧
    shiftByReg .datasheet .lsr 0x80000001#32 0#8 false = (0x80000001#32, false) := by decide

theorem test_shift_immediate_amounts :
    shiftByImm .lsr 0x80000001#32 0#5 false = (0#32, true) ∧
    shiftByImm .asr 0x80000001#32 0#5 false = (0xFFFFFFFF#32, true) ∧
    shiftByImm .ror 0x40000002#32 0#5 true = (0xA0000001#32, false) ∧
    shiftByImm .ror 0x80000001#32 31#5 false = (3#32, false) := by decide

theorem test_rotated_immediates : rotatedImm 4#4 0xFF#8 = 0xFF000000#32 ∧ rotatedImm 1#4 2#8 = 0x80000000#32 ∧
    rotatedImm 0xA#4 9#8 = 0x00009000#32 := by decide

/-! ### Data processing (V3) -/

theorem test_and : ends (execWord 0xE21104FF#32 (executing .supervisor 0#32 1#4 [(1, 0x80000000#32)]))
    (fun t => t.reg 0 == 0x80000000#32 && t.cpsr == 0xB0000013#32) = true := by decide
theorem test_eor : ends (execWord 0xE0300000#32 (executing .supervisor 0#32 2#4 [(0, 0x1234#32)]))
    (fun t => t.reg 0 == 0#32 && t.cpsr == 0x60000013#32) = true := by decide
theorem test_sub_borrow : ends (execWord 0xE0500001#32 (svc [(1, 1#32)]))
    (fun t => t.reg 0 == 0xFFFFFFFF#32 && t.cpsr == 0x80000013#32) = true := by decide
theorem test_sub_overflow : ends (execWord 0xE0500001#32 (svc [(0, 0x80000000#32), (1, 1#32)]))
    (fun t => t.reg 0 == 0x7FFFFFFF#32 && t.cpsr == 0x30000013#32) = true := by decide
theorem test_rsb : ends (execWord 0xE2710000#32 (svc [(1, 1#32)]))
    (fun t => t.reg 0 == 0xFFFFFFFF#32 && t.cpsr == 0x80000013#32) = true := by decide
theorem test_add_overflow : ends (execWord 0xE0900001#32 (svc [(0, 0x7FFFFFFF#32), (1, 1#32)]))
    (fun t => t.reg 0 == 0x80000000#32 && t.cpsr == 0x90000013#32) = true := by decide
theorem test_add_pc_register_shift : ends (execWord 0xE08F0211#32 (svc [])) (fun t => t.reg 0 == 0x10C#32) = true := by
  decide
theorem test_adc : ends (execWord 0xE0B00001#32 (executing .supervisor 0#32 2#4 [(0, 0xFFFFFFFF#32)]))
    (fun t => t.reg 0 == 0#32 && t.cpsr == 0x60000013#32) = true := by decide
theorem test_sbc : ends (execWord 0xE0D00001#32 (svc [(0, 5#32), (1, 3#32)]))
    (fun t => t.reg 0 == 1#32 && t.cpsr == 0x20000013#32) = true := by decide
theorem test_rsc : ends (execWord 0xE0F10002#32 (executing .supervisor 0#32 2#4 [(1, 1#32)]))
    (fun t => t.reg 0 == 0xFFFFFFFF#32 && t.cpsr == 0x80000013#32) = true := by decide
theorem test_tst : ends (execWord 0xE3100001#32 (svc [(0, 2#32)]))
    (fun t => t.reg 0 == 2#32 && t.cpsr == 0x40000013#32) = true := by decide
theorem test_teq : ends (execWord 0xE1300001#32 (executing .supervisor 0#32 3#4 [(0, 7#32), (1, 7#32)]))
    (fun t => t.cpsr == 0x70000013#32) = true := by decide
theorem test_cmp : ends (execWord 0xE1500001#32 (svc [(0, 3#32), (1, 5#32)]))
    (fun t => t.reg 0 == 3#32 && t.cpsr == 0x80000013#32) = true := by decide
theorem test_cmp_rd_field_ignored : ends (execWord 0xE150F001#32 (svc []))
    (fun t => t.pc == 0x10C#32 && t.cpsr == 0x60000013#32) = true := by decide
theorem test_cmn : ends (execWord 0xE1700001#32 (svc [(0, 1#32), (1, 0xFFFFFFFF#32)]))
    (fun t => t.reg 0 == 1#32 && t.cpsr == 0x60000013#32) = true := by decide
theorem test_orr : ends (execWord 0xE3800102#32 (svc [(0, 1#32)]))
    (fun t => t.reg 0 == 0x80000001#32 && t.cpsr == 0x13#32) = true := by decide
theorem test_bic : ends (execWord 0xE3C000FF#32 (svc [(0, 0x12345678#32)])) (fun t => t.reg 0 == 0x12345600#32) = true := by
  decide
theorem test_mvn : ends (execWord 0xE3E00000#32 (svc [])) (fun t => t.reg 0 == 0xFFFFFFFF#32) = true := by decide
theorem test_mov_pc_operand : ends (execWord 0xE1A0000F#32 (svc [])) (fun t => t.reg 0 == 0x108#32) = true := by decide
theorem test_mov_restores_cpsr : ends (execWord 0xE1B0F00E#32
    ((svc [(14, 0x30#32), (13, 0x7000#32)]).setSpsr .svc 0x10#32))
    (fun t => t.pc == 0x30#32 && t.cpsr == 0x10#32 && t.curBank == .main && t.bankR13.svc == 0x7000#32) = true := by
  decide

/-! ### PSR transfer (V4) -/

theorem test_mrs_cpsr : ends (execWord 0xE10F0000#32 ((svc []).setCpsr 0x600000D3#32))
    (fun t => t.reg 0 == 0x600000D3#32) = true := by decide
theorem test_mrs_spsr : ends (execWord 0xE14F0000#32 ((executing .abort 0#32 0#4 []).setSpsr .abt 0x80000010#32))
    (fun t => t.reg 0 == 0x80000010#32) = true := by decide
theorem test_msr_cpsr_privileged : ends (execWord 0xE129F000#32 (svc [(0, 0x10#32), (13, 0x7000#32)]))
    (fun t => t.cpsr == 0x10#32 && t.bankR13.svc == 0x7000#32 && t.curBank == .main) = true := by decide
theorem test_msr_cpsr_user : ends (execWord 0xE129F000#32 (executing .user 0#32 0#4 [(0, 0xF00000D3#32)]))
    (fun t => t.cpsr == 0xF0000010#32) = true := by decide
theorem test_msr_cpsr_flags_imm : ends (execWord 0xE328F20F#32 (svc [])) (fun t => t.cpsr == 0xF0000013#32) = true := by
  decide
theorem test_msr_cpsr_flags_reg : ends (execWord 0xE128F000#32 ((svc [(0, 0x0FFFFFFF#32)]).setCpsr 0xF00000D3#32))
    (fun t => t.cpsr == 0x000000D3#32) = true := by decide
theorem test_msr_spsr : ends (execWord 0xE169F000#32 (executing .irq 0#32 0#4 [(0, 0x10#32)]))
    (fun t => t.spsr.irq == 0x10#32) = true := by decide
theorem test_msr_spsr_user : ends (execWord 0xE169F000#32 (executing .user 0#32 0#4 [(0, 0x10#32)]))
    (fun t => t.spsr.irq == 0#32 && t.spsr.svc == 0x13#32) = true := by decide
theorem test_msr_spsr_flags_reg : ends (execWord 0xE168F000#32 ((executing .irq 0#32 0#4
    [(0, 0x6FFFFFFF#32)]).setSpsr .irq 0x10#32)) (fun t => t.spsr.irq == 0x60000010#32) = true := by decide
theorem test_msr_spsr_flags_imm : ends (execWord 0xE368F20F#32 ((executing .fiq 0#32 0#4 []).setSpsr .fiq 0x10#32))
    (fun t => t.spsr.fiq == 0xF0000010#32) = true := by decide
theorem test_upp_trap : ends (execWord 0xE1000000#32 (executing .user 0x100#32 0#4 []))
    (fun t => t.mode == some .supervisor && t.reg 14 == 0x104#32 && t.spsr.svc == 0x10#32 && t.pc == 8#32) = true := by
  decide

theorem test_upp_bits_4_and_7_refused : execWord 0xE1000191#32 (svc []) = .refused .bits4And7 := by rfl
theorem test_upp_bits_4_and_7_condition_fails : execWord 0x01000191#32 (svc []) = .next (svc []) := by rfl

/-! ### Multiply (V5) -/

theorem test_mul : ends (execWord 0xE0100291#32 (executing .supervisor 0#32 3#4 [(1, 0x10000#32), (2, 0x10000#32)]))
    (fun t => t.reg 0 == 0#32 && t.cpsr == 0x70000013#32) = true := by decide
theorem test_mul_source_is_destination : ends (execWord 0xE0000094#32 (svc [(0, 7#32), (4, 7#32)]))
    (fun t => t.reg 0 == 49#32) = true := by decide
theorem test_mla : ends (execWord 0xE0203291#32 (svc [(1, 3#32), (2, 5#32), (3, 0xFFFFFFF1#32)]))
    (fun t => t.reg 0 == 0#32 && t.cpsr == 0x13#32) = true := by decide

/-! ### Single transfer and swap (V6) -/

theorem test_ldr_rotates : ends (execWord 0xE5910000#32 (withRam (svc [(1, 0x103#32)])))
    (fun t => t.reg 0 == 0x33221144#32) = true := by decide
theorem test_ldr_pre_indexed : ends (execWord 0xE5B10004#32 (withRam (svc [(1, 0x100#32)])))
    (fun t => t.reg 0 == 0x88776655#32 && t.reg 1 == 0x104#32) = true := by decide
theorem test_ldrb : ends (execWord 0xE5D10002#32 (withRam (svc [(1, 0x100#32)])))
    (fun t => t.reg 0 == 0x33#32) = true := by decide
theorem test_str_unaligned : ends (execWord 0xE5810000#32 (withRam (svc [(0, 0xDEADBEEF#32), (1, 0x102#32)])))
    (fun t => t.mem.readByte 0x100 == 0xEF#8 && t.mem.readWord 0x100 == 0xDEADBEEF#32) = true := by decide
theorem test_str_pc : ends (execWord 0xE580F000#32 (withRam (executing .supervisor 0x40#32 0#4 [(0, 0x100#32)])))
    (fun t => t.mem.readWord 0x100 == 0x4C#32) = true := by decide
theorem test_strb : ends (execWord 0xE5C10001#32 (withRam (svc [(0, 0xDEADBEEF#32), (1, 0x100#32)])))
    (fun t => t.mem.readWord 0x100 == 0x4433EF11#32) = true := by decide
theorem test_swp : ends (execWord 0xE1020091#32 (withRam (svc [(1, 0xAAAAAAAA#32), (2, 0x100#32)])))
    (fun t => t.reg 0 == 0x44332211#32 && t.mem.readWord 0x100 == 0xAAAAAAAA#32) = true := by decide
theorem test_swpb : ends (execWord 0xE1420091#32 (withRam (svc [(1, 0x1234#32), (2, 0x101#32)])))
    (fun t => t.reg 0 == 0x22#32 && t.mem.readWord 0x100 == 0x44333411#32) = true := by decide

/-! ### Block transfer (V7) -/

theorem test_block_addresses :
    blockStart false true 0x1000#32 0xE#16 = 0x1000#32 ∧ blockStart true true 0x1000#32 0xE#16 = 0x1004#32 ∧
    blockStart false false 0x1000#32 0xE#16 = 0xFF8#32 ∧ blockStart true false 0x1000#32 0xE#16 = 0xFF4#32 ∧
    blockFinal true 0x1000#32 0xE#16 = 0x100C#32 ∧ blockFinal false 0x1000#32 0xE#16 = 0xFF4#32 := by decide
theorem test_stm_base_in_list : ends (execWord 0xE8A10003#32 (withRam (svc [(0, 7#32), (1, 0x100#32)])))
    (fun t => t.mem.readWord 0x100 == 7#32 && t.mem.readWord 0x104 == 0x108#32 && t.reg 1 == 0x108#32) = true := by
  decide
theorem test_stm_user_bank : ends (execWord 0xE94D6000#32
    { executing .irq 0#32 0#4 [(13, 0x7000#32)] with
      bankR13 := ⟨0x5000#32, 0, 0, 0, 0, 0⟩, bankR14 := ⟨0x44#32, 0, 0, 0, 0, 0⟩ })
    (fun t => t.mem.readWord 0x6FF8 == 0x5000#32 && t.mem.readWord 0x6FFC == 0x44#32 && t.reg 13 == 0x7000#32
      && t.curBank == .exc .irq) = true := by decide
theorem test_ldm_base_in_list : ends (execWord 0xE8B00003#32 (withRam (svc [(0, 0x100#32)])))
    (fun t => t.reg 0 == 0x44332211#32 && t.reg 1 == 0x88776655#32) = true := by decide
theorem test_ldm_restores_cpsr : ends (execWord 0xE8FD8001#32
    (((executing .irq 0#32 0#4 [(13, 0x7000#32)]).setSpsr .irq 0x20000010#32).setMem
      (words [(0x7000, 1#32), (0x7004, 0x1000#32)])))
    (fun t => t.reg 0 == 1#32 && t.pc == 0x1000#32 && t.cpsr == 0x20000010#32 && t.bankR13.irq == 0x7008#32) = true := by
  decide

/-! ### Branch, software interrupt, undefined (V8) -/

theorem test_b : ends (execWord 0xEA800000#32 (executing .supervisor 0x02000000#32 0#4 []))
    (fun t => t.pc == 8#32 && t.pf == .empty) = true := by decide
theorem test_b_not_taken : ends (execWord 0x1AFFFFFC#32 (executing .supervisor 0x10#32 4#4 []))
    (fun t => t.pc == 0x1C#32) = true := by decide
theorem test_bl : ends (execWord 0xEB000001#32 (executing .supervisor 8#32 0#4 []))
    (fun t => t.pc == 0x14#32 && t.reg 14 == 0xC#32) = true := by decide
theorem test_swi : ends (execWord 0xEF000042#32 (executing .user 0x2C#32 0#4 []))
    (fun t => t.spsr.svc == 0x10#32 && t.cpsr == 0x13#32 && t.reg 14 == 0x30#32 && t.pc == 8#32) = true := by decide
theorem test_undefined_cdp : ends (execWord 0xEE000000#32 (executing .user 0x100#32 0#4 []))
    (fun t => t.spsr.und == 0x10#32 && t.mode == some .undefined && t.reg 14 == 0x104#32 && t.pc == 4#32) = true := by
  decide
theorem test_undefined_011x1 : ends (execWord 0xE7F000F0#32 (svc [])) (fun t => t.pc == 4#32 && t.reg 14 == 0x104#32)
    = true := by decide
theorem test_undefined_ldc : ends (execWord 0xED900100#32 (svc [])) (fun t => t.pc == 4#32 && t.spsr.und == 0x13#32)
    = true := by decide
theorem test_undefined_mrc_p14 : ends (execWord 0xEE110E10#32 (svc [])) (fun t => t.pc == 4#32 && t.pf == .empty)
    = true := by decide
theorem test_nv : ends (execWord 0xF3A00001#32 (svc [])) (fun t => t.reg 0 == 0#32 && t.pc == 0x10C#32) = true := by
  decide

/-! ### Memory management and cache (V9, V10) -/

theorem test_section_walk : reads (memRead 0x12345678#32 .word (mapped .user 1#32 4#32 0xC0000C3A#32 0#32)) (.value 0#32)
    (fun t => t.tlb.get 0 == ⟨0xFFF00000#32, 0x12300000#32, 0xC0000C3A#32, 0#32⟩ && t.tlbNext == 1
      && t.busTrace == [.read 0xC0045678#32 .word, .read 0x0001048C#32 .word]) = true := by decide
theorem test_small_page_walk : reads (memRead 0x12345678#32 .word (mapped .user 1#32 0x10#32 0x00020051#32 0x00ABCFFE#32))
    (.value 0#32) (fun t => t.tlb.get 0 == ⟨0xFFFFF000#32, 0x12345000#32, 0x00020051#32, 0x00ABCFFE#32⟩
      && t.busTrace == [.read 0x00ABC678#32 .word, .read 0x00020114#32 .word, .read 0x0001048C#32 .word]) = true := by
  decide
theorem test_large_page_permission :
    reads (memRead 0x12345678#32 .word (mapped .user 1#32 0x10#32 0x00020051#32 0x00AB0551#32))
      (.fault ⟨.pagePermissionFault, 2#4, 0x12345678#32⟩) (fun t => t.tlbNext == 1) = true := by decide
theorem test_translation_fault : reads (memRead 0x12345678#32 .word (mapped .user 1#32 0x10#32 0x00020051#32 0#32))
    (.fault ⟨.pageTranslationFault, 2#4, 0x12345678#32⟩) (fun t => t.tlbNext == 0) = true := by decide
theorem test_alignment_fault : reads (memRead 0x12345679#32 .word (mapped .user 3#32 4#32 0xC0000C3A#32 0#32))
    (.fault ⟨.alignment, 0#4, 0x12345679#32⟩) (fun t => t.busTrace == []) = true := by decide
theorem test_system_bit_permits_supervisor_read :
    reads (memRead 0x12345678#32 .word (mapped .supervisor 0x101#32 4#32 0xC000003A#32 0#32)) (.value 0#32)
      (fun _ => true) = true := by decide
theorem test_cache_refill_reads : reads (memRead 0x12345678#32 .word (mapped .user 5#32 4#32 0xC0000C3A#32 0#32))
    (.value 0#32) (fun t => t.busTrace == [.read 0xC004567C#32 .word, .read 0xC0045678#32 .word,
      .read 0xC0045674#32 .word, .read 0xC0045670#32 .word, .read 0x0001048C#32 .word]) = true := by decide
theorem test_cache_refill_failure : reads (memRead 0x12345678#32 .word
    (withErrorAt 0xC0045674#32 0xC0045674#32 (mapped .user 5#32 4#32 0xC0000C3A#32 0#32)))
    (.fault ⟨.sectionLinefetchError, 1#4, 0x12345678#32⟩) (fun t => t.busTrace == [.read 0xC0045674#32 .word,
      .read 0xC0045670#32 .word, .read 0x0001048C#32 .word]) = true := by decide

/-! ### Coprocessor 15 (V11) -/

theorem test_mrc_fsr : ends (execWord 0xEE150F10#32 ((svc []).setCp15 ⟨0, 0, 0, 0x1D#32, 0⟩))
    (fun t => t.reg 0 == 0x1D#32) = true := by decide
theorem test_mrc_control_unreadable : ends (execWord 0xEE110F10#32 ((svc []).setCp15 ⟨5#32, 0, 0, 0, 0⟩))
    (fun t => t.reg 0 == 0xFFFFFFFF#32) = true := by decide
theorem test_mcr_control : ends (execWord 0xEE010F10#32 (svc [(0, 7#32)])) (fun t => t.cp15.control == 7#32) = true := by
  decide
theorem test_mcr_user_traps : ends (execWord 0xEE010F10#32 (executing .user 0x40#32 0#4 []))
    (fun t => t.spsr.svc == 0x10#32 && t.cpsr == 0x13#32 && t.reg 14 == 0x44#32 && t.pc == 8#32
      && t.cp15.control == 0#32) = true := by decide

/-! ### Whole steps, exceptions, reset (V6, V12) -/

theorem test_step_runs_the_placed_word : ends (step (State.reset.withFetchWord 32 0xE3A02C80))
    (fun t => t.reg 2 == 0x8000#32 && t.pc == 0xC#32 && t.pf.count == 2) = true := by decide
theorem test_step_alignment_abort : ends (step (aboutToRun 0xE5910000#32
    ((svc [(1, 0x101#32)]).setCp15 ⟨2#32, 0, 0, 0, 0⟩)))
    (fun t => t.reg 14 == 0x48#32 && t.pc == 0x10#32 && t.cp15.fsr == 1#32 && t.cp15.far == 0x101#32 && t.reg 0 == 0#32)
    = true := by decide
theorem test_third_tick_executes : ends (core.run 3 (State.reset.setMem (words [(0, 0xE3A02C80#32)])))
    (fun t => t.reg 2 == 0x8000#32 && t.pc == 0xC#32) = true := by decide
theorem test_fiq : (let s := { executing .user 0x0FFC#32 2#4 [(8, 8#32), (13, 0x7000#32), (14, 0x44#32)] with
      pf := .two (.word 0#32) (.word 0#32) }
    let t := requestFIQ s
    t.cpsr == 0x200000D1#32 && t.reg 14 == 0x1004#32 && t.pc == 0x1C#32 && t.spsr.fiq == 0x20000010#32
      && t.fiqShadow0.r8 == 8#32 && t.bankR13.main == 0x7000#32 && t.bankR14.main == 0x44#32) = true := by decide
theorem test_irq_refused : (let s := (svc []).setCpsr 0x90#32
    let t := requestIRQ (s.setHalted true)
    t.cpsr == 0x90#32 && t.pc == s.pc && t.halted == false) = true := by decide
theorem test_reset : (let s := { (svc [(13, 0x1111#32)]) with cpsr := 0x600000D2#32, curBank := .exc .irq }
    let t := resetProcedure s
    t.spsr.svc == 0x600000D2#32 && t.bankR13.irq == 0x1111#32 && t.cpsr == 0x600000D3#32 && t.pc == 0#32) = true := by
  decide
/-! ### Witnesses: states and operands that meet the hypotheses of the statements, clause by clause -/

/-- Supervisor mode, MMU off, RAM everywhere. -/
theorem flat_svc : (svc []).FlatRam := ⟨by decide, by decide, fun _ => rfl⟩

/-- About to run `MOV r0, #5`. -/
def running : State := aboutToRun 0xE3A00005#32 (svc [])

theorem running_about : ∃ newer, running.AboutToRun 0xE3A00005#32 newer := ⟨_, rfl, rfl, rfl⟩

theorem witness_DecodeOfEncode : WellFormed (.eor .al true 0 1 (.bits4And7 2 .ror 3)) ∧
    WellFormed (.undefinedMrcMcrNotP15 .al 0x110#12 14#4 0#3 0#4) ∧
    WellFormed (.uppTrap .al false 0b10#2 0xF#4 3#4 1#12) := by decide

theorem witness_UndefinedSpaceTraps : condHolds (svc []).cpsr .al = true ∧
    Cond.ofCode (fieldOf 0xE7F000F0#32 28 4) = some .al ∧
    (fieldOf 0xE7F000F0#32 25 3 = 0b011#3 ∧ flagOf 0xE7F000F0#32 4 = true) ∧ fieldOf 0xED900100#32 25 3 = 0b110#3 ∧
    (fieldOf 0xEE000000#32 24 4 = 0b1110#4 ∧ flagOf 0xEE000000#32 4 = false) ∧
    (fieldOf 0xEE110E10#32 24 4 = 0b1110#4 ∧ flagOf 0xEE110E10#32 4 = true ∧ fieldOf 0xEE110E10#32 8 4 ≠ 0b1111#4) := by
  decide

theorem witness_ConditionsAndFailedConditions :
    (∀ c, Cond.ofCode (fieldOf 0x03A00001#32 28 4) = some c → condHolds (svc []).cpsr c = false) ∧
    (∀ c, Cond.ofCode (fieldOf 0xF3A00001#32 28 4) = some c → condHolds (svc []).cpsr c = false) ∧
    (let s := aboutToRun 0x03A00001#32 (svc [])
    (∃ newer, s.AboutToRun 0x03A00001#32 newer) ∧ s.faultPending = none ∧ ∃ m, fetch s = .next m) := by
  refine ⟨?_, ?_, ⟨_, rfl, rfl, rfl⟩, rfl, _, rfl⟩
  · intro c h
    cases h
    decide
  · intro c h
    rw [show Cond.ofCode (fieldOf 0xF3A00001#32 28 4) = none by decide] at h
    cases h

theorem witness_StepRunsDecodedInstruction : (∃ newer, running.AboutToRun 0xE3A00005#32 newer) ∧
    decode (bytesOfWord 0xE3A00005#32) = .ok (.mov .al false 0#4 0 (.imm 0#4 5#8), []) ∧ ∃ m, fetch running = .next m :=
  ⟨running_about, by rfl, _, rfl⟩

theorem witness_ThirdTickRunsTheBytesAtThePc :
    let s := State.reset.setMem (words [(0, 0xE3A00005#32)])
    s.schedule = [] ∧ s.halted = false ∧ s.pf = .empty ∧ s.faultPending = none ∧ s.FlatRam ∧ s.PcAligned ∧
    decode (bytesOfWord (s.mem.readWord s.pc.toNat)) = .ok (.mov .al false 0#4 0 (.imm 0#4 5#8), []) :=
  ⟨rfl, rfl, rfl, rfl, ⟨by decide, by decide, fun _ => rfl⟩, by show _ = _; decide, by rfl⟩

theorem witness_FetchFaultAbortsAtPop :
    let s := fun f => running.setPf (.two (.fault f) (.word 0#32))
    let f : FaultCode := ⟨.sectionTranslationFault, 0#4, 0x00100000#32⟩
    let g : FaultCode := ⟨.nonMMU, 0#4, 0x00100000#32⟩
    (s f).schedule = [] ∧ (s f).halted = false ∧ (s f).pf = .two (.fault f) (.word 0#32) ∧ (s f).faultPending = none ∧
    (∃ m, fetch (s f) = .next m) ∧ (s g).pf = .two (.fault g) (.word 0#32) ∧ ∃ m, fetch (s g) = .next m :=
  ⟨rfl, rfl, rfl, rfl, ⟨_, rfl⟩, rfl, _, rfl⟩

theorem witness_HaltedTickDoesNothing :
    let s := (svc []).setHalted true
    s.halted = true ∧ s.schedule = [] ∧ (s.setSchedule [.tick]).schedule = [.tick] ∧
    ∃ t, step (s.setSchedule [.setProcessorID 7#32]) = .next t := ⟨rfl, rfl, rfl, _, rfl⟩

theorem witness_Shifter : (1#5 ≠ 0#5 ∧ 31#5 ≠ 0#5) ∧ (1 ≤ (1#8).toNat ∧ (31#8).toNat ≤ 31) ∧
    (33 ≤ (33#8).toNat ∧ 33 ≤ (255#8).toNat) ∧ 32 ≤ (32#8).toNat ∧ (32#8 ≠ 0#8 ∧ (224#8).toNat % 32 = 0) ∧
    (255#8).toNat % 32 ≠ 0 := by decide

theorem witness_DataProcessing :
    let s := executing .irq 0x100#32 0#4 [(14, 0x1004#32)]
    let s := s.setSpsr .irq 0x20000010#32
    condHolds s.cpsr .al = true ∧ (Operand2.imm 0#4 4#8).described = true ∧ (Operand2.bits4And7 1 .lsr 0).described = false ∧
    s.mode = some ExcBank.irq.mode ∧ s.curBank = .exc .irq ∧
    Mode.ofBits ((s.spsr.get .irq).extractLsb' 0 5) = some .user ∧
    (DpOp.sub.value (operand1 (.imm 0#4 4#8) 14 s) 4#32 false s).result.extractLsb' 0 2 = 0#2 ∧
    (executing .user 0x100#32 0#4 []).hasSpsr = false := by decide

theorem witness_RefusedForms :
    let s := executing .irq 0x100#32 0#4 [(14, 0x1003#32)]
    condHolds s.cpsr .al = true ∧ (1#16 ≠ 0#16 ∧ (0 : Reg) ≠ 15 ∧ (1#16).getLsbD 15 = false) ∧
    (DpOp.mov.value 0#32 (operand2Value (.shiftImm 14 .lsl 0#5) s).1 false s).result.extractLsb' 0 2 ≠ 0#2 ∧
    (DpOp.mov.value 0#32 (operand2Value (.imm 0#4 0#8) s).1 false s).result.extractLsb' 0 2 = 0#2 ∧
    Mode.ofBits ((s.spsr.get .irq).extractLsb' 0 5) = none := by decide

/-- An LDM of a misaligned program counter, and one that restores the illegal mode number 0 (U1, U2). -/
theorem witness_RefusedForms_ldm :
    let s := (executing .irq 0x100#32 0#4 [(1, 0x100#32)]).setMem (words [(0x100, 0x1003#32), (0x104, 0x1000#32)])
    let v := fun base => s.mem.readWord (slotAddress false true base 0x8000#16 15 &&& 0xFFFFFFFC#32).toNat
    condHolds s.cpsr .al = true ∧ s.FlatRam ∧ (1 : Reg) ≠ 15 ∧ (0x8000#16).getLsbD 15 = true ∧
    (v 0x100#32).extractLsb' 0 2 ≠ 0#2 ∧ (v 0x104#32).extractLsb' 0 2 = 0#2 ∧ s.mode = some ExcBank.irq.mode ∧
    s.curBank = .exc .irq ∧ Mode.ofBits ((s.spsr.get .irq).extractLsb' 0 5) = none :=
  ⟨by decide, ⟨by decide, by decide, fun _ => rfl⟩, by decide, by decide, by decide, by decide, by decide, by decide,
    by decide⟩

/-- The forms of U8, each of its three ways. -/
theorem witness_RefusedForms_transfer :
    (((false = false ∨ false = true) ∧ (15 : Reg) = 15) ∧ ((true = false ∨ true = true) ∧ (15 : Reg) = 15)) ∧
    ∃ sh amt, Offset.shifted 15 .lsl 0#5 = .shifted 15 sh amt := ⟨by decide, _, _, rfl⟩

/-- An access that meets U3: Client domain 1, a section with AP = 00, control bits M, S and R. -/
theorem witness_RefusedForms_ap_zero :
    let s := mapped .user 0x301#32 4#32 0xC000003A#32 0#32
    s.mmuOn = true ∧ s.cp15.control.getLsbD 8 = true ∧ s.cp15.control.getLsbD 9 = true ∧
    s.cp15.control.getLsbD 1 = false ∧ ∃ e s1, translate true (accessAddress 0x12345678#32 .word) s = (.ok e, s1) ∧
      s.cp15.dac.extractLsb' (2 * (e.level1Descriptor.extractLsb' 5 4).toNat) 2 = 0b01#2 ∧
      e.ap 0x12345678#32 = 0b00#2 :=
  ⟨by decide, by decide, by decide, by decide, ⟨0xFFF00000#32, 0x12300000#32, 0xC000003A#32, 0#32⟩, _, rfl, by decide,
    by decide⟩

theorem witness_UnrecognisedPatternsTrap :
    WellFormed (.uppTrap .al false 0#2 0#4 0#4 0x010#12) ∧ WellFormed (.uppTrap .al true 0#2 0#4 0#4 0x090#12) ∧
    (Cond.ofCode (fieldOf 0xE1000191#32 28 4) = some .al ∧ fieldOf 0xE1000191#32 23 5 = 0b00010#5 ∧
      flagOf 0xE1000191#32 20 = false ∧ flagOf 0xE1000191#32 4 = true ∧ flagOf 0xE1000191#32 7 = true ∧
      ¬ (flagOf 0xE1000191#32 21 = false ∧ fieldOf 0xE1000191#32 4 8 = 0b00001001#8)) := by decide

theorem witness_RegisterInstructionsFrame :
    (∃ t, exec (DpOp.add.instr .al true 1 0 (.imm 0#4 1#8)) (svc []) = .next t) ∧
    (∃ t, exec (CmpOp.cmp.instr .al 1 0 (.imm 0#4 1#8)) (svc []) = .next t) ∧
    (∃ t, exec (.mul .al true 0 0#4 1 2) (svc []) = .next t) ∧ (∃ t, exec (.mla .al true 0 3 1 2) (svc []) = .next t) ∧
    ∃ t, exec (.mrsCpsr .al 0) (svc []) = .next t := ⟨⟨_, rfl⟩, ⟨_, rfl⟩, ⟨_, rfl⟩, ⟨_, rfl⟩, _, rfl⟩

theorem witness_PsrTransfer :
    let s := svc [(0, 0x10#32), (1, 0x14#32)]
    let u := executing .user 0#32 0#4 [(0, 0x10#32)]
    condHolds s.cpsr .al = true ∧ s.mode = some ExcBank.svc.mode ∧ s.curBank = .exc .svc ∧ s.priv = true ∧
    Mode.ofBits ((s.reg 0).extractLsb' 0 5) = some .user ∧ Mode.ofBits ((s.reg 1).extractLsb' 0 5) = none ∧
    condHolds u.cpsr .al = true ∧ u.hasSpsr = false ∧ u.priv = false ∧ u.mode = some .user := by decide

theorem witness_AlignmentCheck :
    let s := (executing .supervisor 0x101#32 0#4 []).setCp15 ⟨2#32, 0, 0, 0, 0⟩
    s.cp15.control.getLsbD 1 = true ∧ (1#32).extractLsb' 0 2 ≠ 0#2 ∧ s.pc.extractLsb' 0 2 ≠ 0#2 := by decide

/-- A byte read and a byte write that fault, for the third clause of the alignment check. -/
theorem witness_AlignmentCheck_byte : (let s := withErrorAt 0#32 0#32 (svc [])
    reads (memRead 0#32 .byte s) (.fault ⟨.nonMMU, 0#4, 0#32⟩) (fun _ => true) &&
      match memWrite 0#32 .byte 0#32 s with
      | .next (some f, _) => decide (f = ⟨.nonMMU, 0#4, 0#32⟩)
      | _ => false) = true := by decide

theorem witness_MmuOffReadsThePhysicalBus : (svc []).mmuOn = false ∧
    ¬ (Size.word = .word ∧ (0x101#32).extractLsb' 0 2 ≠ 0#2 ∧ (svc []).cp15.control.getLsbD 1 = true) ∧
    ¬ (Size.byte = .word ∧ (0x101#32).extractLsb' 0 2 ≠ 0#2 ∧ (svc []).cp15.control.getLsbD 1 = true) := by decide

theorem witness_TlbHitIsTheFirstMatch :
    let s := (svc []).setTlb ((svc []).tlb.set 63 ⟨0xFFF00000#32, 0x12300000#32, 0xC0000C3A#32, 0#32⟩)
    ((s.tlb.get 63).addrMask ≠ 0#32 ∧ (s.tlb.get 63).addr = 0x12345678#32 &&& (s.tlb.get 63).addrMask) ∧
    (∀ j : Fin 64, j < 63 → (s.tlb.get j).addrMask = 0#32) ∧ (∀ i : Fin 64, ((svc []).tlb.get i).addrMask = 0#32) ∧
    (∀ i : Fin 64, (s.tlb.get i).addrMask = 0#32 ∨ (s.tlb.get i).addr ≠ 0x12400000#32 &&& (s.tlb.get i).addrMask) ∧
    tlbLookup s.tlb 0x12345678#32 = some ⟨0xFFF00000#32, 0x12300000#32, 0xC0000C3A#32, 0#32⟩ := by decide

theorem witness_TableWalk :
    let s := fun l1 l2 => mapped .user 1#32 4#32 l1 l2
    let first := fun s : State => (busRead ((s.cp15.ttb &&& 0xFFFFC000#32) ||| ((0x12345678#32 >>> 20) <<< 2)) .word s).1
    let second := fun l2 => (busRead 0x00020114#32 .word (s 0x00020051#32 l2)).1
    tlbLookup (s 0#32 0#32).tlb 0x12345678#32 = none ∧
    first (withErrorAt 0x0001048C#32 0x0001048C#32 (s 0#32 0#32)) = none ∧ first (s 0#32 0#32) = some 0#32 ∧
    first (s 3#32 0#32) = some 3#32 ∧ first (s 0xC0000C3A#32 0#32) = some 0xC0000C3A#32 ∧
    first (s 0x00020051#32 0#32) = some 0x00020051#32 ∧
    (busRead 0x00020114#32 .word (withErrorAt 0x00020114#32 0x00020114#32 (s 0x00020051#32 0#32))).1 = none ∧
    second 0#32 = some 0#32 ∧ second 3#32 = some 3#32 ∧ second 0x00AB0551#32 = some 0x00AB0551#32 ∧
    second 0x00ABCFFE#32 = some 0x00ABCFFE#32 := by decide

theorem witness_RoundRobinInstallation :
    (tlbLookup (mapped .user 1#32 4#32 0xC0000C3A#32 0#32).tlb 0x12345678#32 = none ∧
      ∃ e s1, tableWalk 0x12345678#32 (mapped .user 1#32 4#32 0xC0000C3A#32 0#32) = (.ok e, s1)) ∧
    ∃ f s1, translate true 0x12345678#32 (mapped .user 1#32 4#32 0#32 0#32) = (.error f, s1) :=
  ⟨⟨by decide, _, _, rfl⟩, _, _, rfl⟩

theorem witness_PhysicalAddressOfEntry : (0xC0000C3A#32).extractLsb' 0 2 = 0b10#2 ∧
    (0x00020051#32).extractLsb' 0 2 ≠ 0b10#2 ∧ (0x00AB0551#32).extractLsb' 0 2 = 0b01#2 ∧
    (0x00ABCFFE#32).extractLsb' 0 2 ≠ 0b01#2 := by decide

/-- Domain 1 as Manager, denied by both values, Client with S and R clear, Client with S and R set and AP 00 or 11. -/
theorem witness_AccessPermission :
    let policy := fun dac : Word => dac.extractLsb' (2 * ((0xC000003A#32).extractLsb' 5 4).toNat) 2
    policy 0xC#32 = 0b11#2 ∧ policy 0#32 = 0b00#2 ∧ policy 8#32 = 0b10#2 ∧ policy 4#32 = 0b01#2 ∧
    ((1#32).getLsbD 8 && (1#32).getLsbD 9) = false ∧ ((0x301#32).getLsbD 8 && (0x301#32).getLsbD 9) = true ∧
    TlbEntry.ap ⟨0xFFF00000#32, 0x12300000#32, 0xC000003A#32, 0#32⟩ 0x12345678#32 = 0b00#2 ∧
    TlbEntry.ap ⟨0xFFF00000#32, 0x12300000#32, 0xC0000C3A#32, 0#32⟩ 0x12345678#32 = 0b11#2 := by decide

theorem witness_CacheRefill :
    let s := mapped .user 5#32 4#32 0xC0000C3A#32 0#32
    let e : TlbEntry := ⟨0xFFF00000#32, 0x12300000#32, 0xC0000C3A#32, 0#32⟩
    s.cacheOn = true ∧ e.cacheable = true ∧
    cacheLookup s.cache (tagAddress s.params (accessAddress 0x12345678#32 .word) 0xC0045678#32) = none ∧ s.PlainRam ∧
    (accessAddress 0x12345678#32 .word).extractLsb' 0 4 = (0xC0045678#32).extractLsb' 0 4 ∧
    ∃ f t, readMapped e 0xC0045678#32 0x12345678#32 .word (withErrorAt 0xC0045674#32 0xC0045674#32 s) = (.fault f, t) :=
  ⟨by decide, by decide, by decide, fun _ => rfl, by decide, _, _, rfl⟩

theorem witness_SecondReadIsServedFromTheCache :
    let s := mapped .user 5#32 4#32 0xC0000C3A#32 0#32
    s.cacheOn = true ∧ ∃ e pa s0 v s1, locate 0x12345678#32 .word false s = .next (.mapped e pa, s0) ∧
      e.cacheable = true ∧ memRead 0x12345678#32 .word s = .next (.value v, s1) :=
  ⟨by decide, ⟨0xFFF00000#32, 0x12300000#32, 0xC0000C3A#32, 0#32⟩, _, _, _, _, rfl, by decide, rfl⟩

theorem witness_LoadAfterStoreGivesTheValueStored :
    let s := mapped .user 1#32 4#32 0xC0000C3A#32 0#32
    s.mem.wf = true ∧ s.PlainRam ∧ ∃ s1, memWrite 0x12345678#32 .word 0xAABBCCDD#32 s = .next (none, s1) ∧
      ∃ x s2, memRead 0x12345678#32 .word s1 = .next (.value x, s2) :=
  ⟨by decide, fun _ => rfl, _, rfl, _, _, rfl⟩

/-- The debug read with the MMU off, and with it on and the address in the TLB, of an unaligned word address too. -/
theorem witness_DebugReadChangesNothing :
    let s := (mapped .user 1#32 4#32 0#32 0#32).setTlb
      ((svc []).tlb.set 63 ⟨0xFFF00000#32, 0x12300000#32, 0xC0000C3A#32, 0#32⟩)
    (svc []).mmuOn = false ∧ s.mmuOn = true ∧
    tlbLookup s.tlb 0x12345679#32 = some ⟨0xFFF00000#32, 0x12300000#32, 0xC0000C3A#32, 0#32⟩ := by decide

theorem witness_FlatTransfers :
    let s := withRam (svc [(1, 0x100#32)])
    let t := s.setMem (words [(0x100, 0x300#32)])
    condHolds s.cpsr .al = true ∧ s.FlatRam ∧ s.mem.wf = true ∧ transferUsesPc true true 1 (.imm 4#12) = false ∧
    ((0 : Reg) ≠ 15 ∧ (1 : Reg) ≠ 15 ∧ (2 : Reg) ≠ 15) ∧
    ((s.mem.readWord 0x100).rotateRight 0).extractLsb' 0 2 ≠ 0#2 ∧
    ((t.mem.readWord 0x100).rotateRight 0).extractLsb' 0 2 = 0#2 :=
  ⟨by decide, ⟨by decide, by decide, fun _ => rfl⟩, by decide, by decide, by decide, by decide, by decide⟩

theorem witness_FaultingTransfersLatchTheFault :
    let s := withErrorAt 0x100#32 0x103#32 (svc [(1, 0x100#32)])
    let r := { s with bus := [⟨0x100#32, 0x103#32, .rom⟩] }
    condHolds s.cpsr .al = true ∧ s.faultPending = none ∧ transferAddress true true 1 (.imm 0#12) s = 0x100#32 ∧
    (∃ f s1, memRead 0x100#32 .word s = .next (.fault f, s1)) ∧ (∃ f s1, memRead 0x100#32 .byte s = .next (.fault f, s1)) ∧
    (∃ f s1, memWrite 0x100#32 .word 0#32 s = .next (some f, s1)) ∧
    (∃ f s1, memWrite 0x100#32 .byte 0#32 s = .next (some f, s1)) ∧
    (∃ v s0 f s1, memRead 0x100#32 .word r = .next (.value v, s0) ∧ memWrite 0x100#32 .word 0#32 s0 = .next (some f, s1)) ∧
    ∃ v s0 f s1, memRead 0x100#32 .byte r = .next (.value v, s0) ∧ memWrite 0x100#32 .byte 0#32 s0 = .next (some f, s1) :=
  ⟨by decide, rfl, by decide, ⟨_, _, rfl⟩, ⟨_, _, rfl⟩, ⟨_, _, rfl⟩, ⟨_, _, rfl⟩, ⟨_, _, _, _, rfl, rfl⟩,
    _, _, _, _, rfl, rfl⟩

theorem witness_SingleTransferFrame :
    let s := withRam (svc [(1, 0x100#32)])
    (∃ t, exec (.ldr .al true true true 1 0 (.imm 4#12)) s = .next t) ∧
    (∃ t, exec (.str .al true true true 1 0 (.imm 4#12)) s = .next t) ∧
    (∃ t, exec (.strb .al true true true 1 0 (.imm 4#12)) s = .next t) ∧
    (∃ q, locate (transferAddress true true 1 (.imm 4#12) s) .word true s = .next q ∧ q.1.target = some 0x104#32) ∧
    (∃ t, exec (.swp .al 1 0 2) s = .next t) ∧ (∃ t, exec (.swpb .al 1 0 2) s = .next t) ∧
    ∃ m q, memRead (s.reg 1) .word s = .next m ∧ locate (s.reg 1) .word true m.2 = .next q :=
  ⟨⟨_, rfl⟩, ⟨_, rfl⟩, ⟨_, rfl⟩, ⟨_, rfl, by rfl⟩, ⟨_, rfl⟩, ⟨_, rfl⟩, _, _, rfl, rfl⟩

theorem witness_BlockTransfers :
    let s := withRam (svc [(1, 0x100#32)])
    let i := ((executing .irq 0#32 0#4 [(13, 0x7000#32)]).setSpsr .irq 0x20000010#32).setMem (words [(0x7000, 0x1000#32)])
    condHolds s.cpsr .al = true ∧ s.FlatRam ∧ s.mem.wf = true ∧ 3#16 ≠ 0#16 ∧ (1 : Reg) ≠ 15 ∧
    (i.FlatRam ∧ (0x8000#16).getLsbD 15 = true ∧ i.mode = some ExcBank.irq.mode ∧ i.curBank = .exc .irq ∧
      Mode.ofBits ((i.spsr.get .irq).extractLsb' 0 5) = some .user ∧
      (i.mem.readWord (slotAddress false true (i.reg 13) 0x8000#16 15 &&& 0xFFFFFFFC#32).toNat).extractLsb' 0 2 = 0#2) ∧
    (executing .user 0#32 0#4 []).hasSpsr = false ∧
    (∃ t, exec (.ldm .al false true false true 1 3#16) s = .next t) ∧
    ∃ t, exec (.stm .al false true false true 1 3#16) s = .next t :=
  ⟨by decide, ⟨by decide, by decide, fun _ => rfl⟩, by decide, by decide, by decide,
    ⟨⟨by decide, by decide, fun _ => rfl⟩, by decide, by decide, by decide, by decide, by decide⟩, by decide, ⟨_, rfl⟩, _, rfl⟩

/-- A user-bank LDM from Supervisor and from FIQ mode, and one with the program counter in User mode. -/
theorem witness_BlockTransferFrame :
    let s := withRam (svc [(1, 0x100#32)])
    let f := withRam (executing .fiq 0#32 0#4 [(1, 0x100#32)])
    (∃ t, exec (.ldm .al false true true false 1 0x6000#16) s = .next t) ∧ s.curBank ≠ .main ∧ s.curBank ≠ .exc .fiq ∧
    (∃ t, exec (.ldm .al false true true false 1 0x0300#16) f = .next t) ∧ f.curBank = .exc .fiq ∧
    ∃ t, exec (.stm .al false true true false 1 0x6000#16) s = .next t :=
  ⟨⟨_, rfl⟩, by decide, by decide, ⟨_, rfl⟩, by decide, _, rfl⟩

/-- An LDM whose second slot answers a bus error, and an STM with a refused slot between two of RAM. -/
theorem witness_FaultingBlockTransfers :
    let s := withErrorAt 0x104#32 0x107#32 (withRam (svc [(1, 0x100#32)]))
    let slot := fun r => slotAddress false true (s.reg 1) 0xE#16 r &&& 0xFFFFFFFC#32
    condHolds s.cpsr .al = true ∧ s.mmuOn = false ∧ s.cp15.control.getLsbD 1 = false ∧ s.faultPending = none ∧
    s.mem.wf = true ∧ (1 : Reg) ≠ 15 ∧ (0xE#16).getLsbD 2 = true ∧ busKindAt s.bus (slot 2) = .error ∧
    (∀ r : Reg, (0xE#16).getLsbD r.val = true → r < 2 →
      busKindAt s.bus (slot r) = .ram ∨ busKindAt s.bus (slot r) = .rom) ∧
    busKindAt s.bus (slot 1) = .ram ∧ busKindAt s.bus (slot 3) = .ram := by decide

theorem witness_FaultingLdmBase :
    let s := withErrorAt 0x104#32 0x104#32 (withRam (svc [(1, 0x100#32)]))
    s.faultPending = none ∧ ∃ t, exec (.ldm .al false true false true 1 0xE#16) s = .next t ∧
      t.faultPending = some ⟨.nonMMU, 0#4, 0x104#32⟩ := ⟨rfl, _, rfl, by rfl⟩

theorem witness_Branches : condHolds (svc []).cpsr .al = true ∧ (svc []).PcAligned :=
  ⟨by decide, by show _ = _; decide⟩

theorem witness_Cp15 :
    let s := svc []
    let t := { s with params := { Config.arm710a with tVariant := true } }
    condHolds s.cpsr .al = true ∧ s.priv = true ∧ s.params.tVariant = false ∧ t.priv = true ∧ t.params.tVariant = true ∧
    (9#4 ≤ 9#4 ∧ 9#4 ≤ 15#4) ∧ 8#4 ∉ [1#4, 2#4, 3#4, 5#4, 6#4, 7#4] := by decide

theorem witness_SwitchBank : Bank.exc .fiq ≠ (svc []).curBank ∧ (executing .fiq 0#32 0#4 []).curBank = .exc .fiq ∧
    Bank.main ≠ (executing .fiq 0#32 0#4 []).curBank ∧ Bank.main ≠ (svc []).curBank := by decide

theorem witness_FaultLatchAndReport : (svc []).faultPending = none ∧
    ((svc []).setFaultPending (some ⟨.alignment, 0#4, 1#32⟩)).faultPending = some ⟨.alignment, 0#4, 1#32⟩ ∧
    FaultType.alignment ≠ .nonMMU := by decide

theorem witness_DataAbortAtEndOfTick :
    let s := aboutToRun 0xE5910000#32 ((svc [(1, 0x101#32)]).setCp15 ⟨2#32, 0, 0, 0, 0⟩)
    (∃ newer, s.AboutToRun 0xE5910000#32 newer) ∧ s.faultPending = none ∧ ∃ m, fetch s = .next m ∧
      ∃ newer t, s.pf = .two (.word 0xE5910000#32) newer ∧
        execWord 0xE5910000#32 (advance (.two newer m.1) m.2) = .next t ∧
        t.faultPending = some ⟨.alignment, 0#4, 0x101#32⟩ :=
  ⟨⟨_, rfl, rfl, rfl⟩, rfl, _, rfl, _, _, rfl, rfl, by rfl⟩

theorem witness_Interrupts :
    let s := executing .user 0#32 0#4 []
    let m := s.setCpsr 0xD0#32
    flagF s.cpsr = false ∧ flagI s.cpsr = false ∧ flagF m.cpsr = true ∧ flagI m.cpsr = true ∧
    s.curBank ≠ .exc .fiq ∧ s.curBank ≠ .exc .irq ∧ (s.setSchedule [.requestFIQ]).schedule = [.requestFIQ] := by decide

theorem witness_InterruptAndReturnIsTransparent : (executing .user 0#32 0#4 []).BankMatches ∧
    (executing .user 0#32 0#4 []).PcAligned := ⟨⟨.user, by decide, by decide⟩, by show _ = _; decide⟩

theorem witness_StepKeepsInvariant : running.Inv ∧ ∃ t, step running = .next t where
  left :=
    { bankMatches := ⟨.supervisor, by decide, by decide⟩
      pcAligned := by show _ = _; decide
      noFaultPending := rfl
      fsrInRange := fun _ => by decide
      tagsDistinct := fun set i j _ h => by
        simp [running, aboutToRun, placeNextWord, svc, executing, State.setReg, State.setPf, State.reset, linesOf,
          Vector.get, CacheLine.empty] at h
      memoryCanonical := by decide }
  right := ⟨_, rfl⟩

theorem witness_UserMode :
    let s := aboutToRun 0xEF000042#32 (executing .user 0#32 0#4 [])
    s.mode = some .user ∧ s.schedule = [] ∧ s.faultPending = none ∧ (∃ t, exec (.swi .al 0x42#24) s = .next t) ∧
    ∃ t, step s = .next t := ⟨by decide, rfl, rfl, ⟨_, rfl⟩, _, rfl⟩

end Sys2Proof.Tests
end

/-! PROOFS. The refused forms (00_scope.md R18, log entry 12). -/

namespace Sys2Proof.Machine

variable {s t : State}

/-! ### Conditions and modes -/

theorem ifPassed_of_holds {c : Cond} (h : condHolds s.cpsr c = true) (body : State → Outcome State) :
    ifPassed c s body = body s := if_pos h

/-- The flags lie above the mode field. -/
@[simp] theorem State.modeBits_setFlags (o : Alu) (s : State) : (s.setFlags o).modeBits = s.modeBits := by
  have hlow {n : Nat} (x : BitVec n) (y : BitVec 28) : (x ++ y).extractLsb' 0 5 = y.extractLsb' 0 5 := by
    ext i hi
    simp [BitVec.getLsbD_append, show i < 28 by omega]
  calc (s.setFlags o).modeBits = (s.cpsr.extractLsb' 0 28).extractLsb' 0 5 := hlow _ _
    _ = s.modeBits := by
      ext i hi
      simp [State.modeBits]

/-- The mode of an exception bank has a saved status word (R31). -/
theorem State.hasSpsr_of_mode {b : ExcBank} (h : s.mode = some b.mode) : s.hasSpsr = true := by
  have hbits := Mode.bits_of_ofBits h
  unfold State.hasSpsr
  rw [← hbits]
  cases b <;> rfl

/-! ### Jumps that may return from an exception (R212, R215, R216, R270) -/

/-- The program counter written, then the CPSR restored where that is asked for and the mode has an SPSR: the end of a
data-processing instruction and of an LDM that write the program counter. -/
def jumpRestoring (restore : Bool) (v : Word) (s : State) : Outcome State :=
  andThen (writePc v s) fun t => if restore && t.hasSpsr then restoreCpsr t else .next t

/-- The flags are written before the jump, and the jump decides the outcome. -/
theorem dataTail_pc (sf : Bool) (o : Alu) (s : State) :
    dataTail sf pcReg o s = jumpRestoring sf o.result (if sf then s.setFlags o else s) := rfl

theorem writePc_aligned {v : Word} (h : v.extractLsb' 0 2 = 0#2) (s : State) : writePc v s = .next (jumpTo v s) :=
  if_pos h

theorem writePc_misaligned {v : Word} (h : v.extractLsb' 0 2 ≠ 0#2) (s : State) :
    writePc v s = .refused .misalignedPc := if_neg h

/-- A misaligned jump is refused whether or not a restore would follow (U1). -/
theorem jumpRestoring_misaligned {v : Word} (h : v.extractLsb' 0 2 ≠ 0#2) (restore : Bool) (s : State) :
    jumpRestoring restore v s = .refused .misalignedPc := by
  rw [jumpRestoring, writePc_misaligned h, andThen_refused]

theorem restoreCpsr_illegalMode {b : ExcBank} (hbank : s.curBank = .exc b)
    (hmode : Mode.ofBits ((s.spsr.get b).extractLsb' 0 5) = none) : restoreCpsr s = .refused .illegalMode := by
  simp [restoreCpsr, currentSpsrBank, hbank, writeCpsr, hmode]

/-- A return whose saved mode number is no mode is refused (U2). -/
theorem jumpRestoring_illegalMode {v : Word} {b : ExcBank} (hv : v.extractLsb' 0 2 = 0#2)
    (hm : s.mode = some b.mode) (hbank : s.curBank = .exc b)
    (hmode : Mode.ofBits ((s.spsr.get b).extractLsb' 0 5) = none) :
    jumpRestoring true v s = .refused .illegalMode := by
  have hspsr : (jumpTo v s).hasSpsr = true := State.hasSpsr_of_mode (s := s) hm
  have hrestore : restoreCpsr (jumpTo v s) = .refused .illegalMode := restoreCpsr_illegalMode (b := b) hbank hmode
  rw [jumpRestoring, writePc_aligned hv, andThen_next, hspsr]
  exact hrestore

/-! ### The rows of R195 over the model's adder -/

/-- The 33-bit sum and its sign rule are the exact sum. -/
theorem addC_eq_exactSum (a b : Word) (c : Bool) : addC a b c = exactSum a b c.toNat := by
  have ha := a.isLt
  have hb := b.isLt
  have hc := Bool.toNat_le c
  simp only [addC, exactSum, Alu.mk.injEq, true_and]
  constructor
  · rw [Nat.testBit_eq_decide_div_mod_eq, decide_eq_decide]
    omega
  · rw [Bool.eq_iff_iff]
    simp only [BitVec.msb_eq_decide, BitVec.toInt_eq_toNat_cond, BitVec.toNat_ofNat, Bool.and_eq_true, beq_iff_eq,
      bne_iff_ne, ne_eq, decide_eq_decide, decide_eq_true_eq]
    split_ifs <;> omega

/-- A difference adds the complement, and the carry in is the missing borrow. -/
theorem exactSum_not (a b : Word) (c : Bool) : exactSum a (~~~b) c.toNat = exactDifference a b (!c).toNat := by
  have hb := b.isLt
  have hnat : (~~~b).toNat = 4294967295 - b.toNat := BitVec.toNat_not
  have hint : (~~~b).toInt = -b.toInt - 1 := by
    simp only [BitVec.toInt_eq_toNat_cond, hnat]
    split_ifs <;> omega
  have hborrow : c.toNat = 1 - (!c).toNat ∧ (!c).toNat ≤ 1 := by cases c <;> decide
  have hexact : a.toInt + (~~~b).toInt + c.toNat = a.toInt - b.toInt - (!c).toNat := by omega
  have hresult : BitVec.ofNat 32 (a.toNat + (~~~b).toNat + c.toNat) =
      BitVec.ofInt 32 (a.toInt + (~~~b).toInt + c.toNat) := by
    simp only [BitVec.ofInt_add, BitVec.ofNat_add, BitVec.ofInt_toInt, BitVec.ofNat_toNat, BitVec.setWidth_eq,
      BitVec.ofInt_natCast]
  simp only [exactSum, exactDifference, hresult, hexact, Alu.mk.injEq, and_true, true_and, decide_eq_decide]
  omega

theorem carryIn_eq (s : State) : carryIn s = (flagC s.cpsr).toNat := by
  unfold carryIn
  cases flagC s.cpsr <;> rfl

theorem borrowIn_eq (s : State) : borrowIn s = (!flagC s.cpsr).toNat := by
  unfold borrowIn
  cases flagC s.cpsr <;> rfl

/-- A data-processing instruction that writes Rd is its row of R195: the logical rows as written, the arithmetic ones
by the exact sum and difference. -/
theorem exec_dpOp (o : DpOp) (c : Cond) (sf : Bool) (rn rd : Reg) (op2 : Operand2) (s : State) :
    exec (o.instr c sf rn rd op2) s =
      dataOp c sf rd op2 (fun s b shC => o.value (operand1 op2 rn s) b shC s) s := by
  cases o with
  | and | eor | orr | mov | bic | mvn => rfl
  | sub | rsb | add | adc | sbc | rsc =>
    simp only [DpOp.instr, exec, execSub, execRsb, execAdd, execAdc, execSbc, execRsc, DpOp.value, carryIn_eq,
      borrowIn_eq, addC_eq_exactSum, exactSum_not, Bool.not_true, Bool.toNat_false]

/-- A compare is its row of R195. -/
theorem exec_cmpOp (o : CmpOp) (c : Cond) (rn rd : Reg) (op2 : Operand2) (s : State) :
    exec (o.instr c rn rd op2) s = compareOp c op2 (fun s b shC => o.value (operand1 op2 rn s) b shC s) s := by
  cases o with
  | tst | teq => rfl
  | cmp | cmn =>
    simp only [CmpOp.instr, exec, execCmp, execCmn, CmpOp.value, addC_eq_exactSum, exactSum_not,
      Bool.not_true, Bool.toNat_false]

/-! ### The second operand -/

theorem operand2_described {op2 : Operand2} (h : op2.described = true) (s : State) :
    operand2 op2 s = .next (operand2Value op2 s) := by
  cases op2 with
  | imm | shiftImm | shiftReg => rfl
  | bits4And7 => cases h

/-- The fourth form of a second operand is refused (U4). -/
theorem operand2_not_described {op2 : Operand2} (h : op2.described = false) (s : State) :
    operand2 op2 s = .refused .bits4And7 := by
  cases op2 with
  | imm | shiftImm | shiftReg => cases h
  | bits4And7 => rfl

/-- With a passing condition and a described second operand the instruction is its tail. -/
theorem exec_dpOp_of_holds {c : Cond} {op2 : Operand2} (hc : condHolds s.cpsr c = true) (h : op2.described = true)
    (o : DpOp) (sf : Bool) (rn rd : Reg) : exec (o.instr c sf rn rd op2) s =
      dataTail sf rd (o.value (operand1 op2 rn s) (operand2Value op2 s).1 (operand2Value op2 s).2 s) s := by
  rw [exec_dpOp, dataOp, ifPassed_of_holds hc, operand2_described h, andThen_next]

/-! ### Accesses -/

theorem alignmentFault_eq_false_iff {va : Word} {n : Size} : alignmentFault va n s = false ↔
    ¬ (n = .word ∧ va.extractLsb' 0 2 ≠ 0#2 ∧ s.cp15.control.getLsbD 1 = true) := by
  simp only [alignmentFault, ← Bool.not_eq_true, Bool.and_eq_true, beq_iff_eq, bne_iff_ne, and_assoc]

/-- U3: with the alignment check passed, a translated access through a Client domain with AP = 00 is refused while S and
R are both 1, in both directions. -/
theorem locate_apZeroWithSAndR {va : Word} {n : Size} {e : TlbEntry} {s1 : State} (hm : s.mmuOn = true)
    (ha : ¬ (n = .word ∧ va.extractLsb' 0 2 ≠ 0#2 ∧ s.cp15.control.getLsbD 1 = true))
    (ht : translate true (accessAddress va n) s = (.ok e, s1)) (hd : domainPolicy s.cp15.dac e.domain = 0b01#2)
    (hap : e.ap va = 0b00#2) (hS : s.cp15.control.getLsbD 8 = true) (hR : s.cp15.control.getLsbD 9 = true)
    (isWrite : Bool) : locate va n isWrite s = .refused .apZeroWithSAndR := by
  have hcp15 : s1.cp15 = s.cp15 := by
    have h := (translate_frame true (accessAddress va n) s).cp15_eq
    rwa [ht] at h
  have hcheck : checkAccess e va isWrite s1 = .unpredictable := by
    simp only [checkAccess, hcp15, hd, hap, hS, hR]
    rfl
  simp [locate, alignmentFault_eq_false_iff.mpr ha, hm, ht, hcheck]

theorem memRead_of_locate_refused {va : Word} {n : Size} {r : Refusal} (h : locate va n false s = .refused r) :
    memRead va n s = .refused r := by
  rw [memRead, h, andThen_refused]

theorem memWrite_of_locate_refused {va : Word} {n : Size} {r : Refusal} (h : locate va n true s = .refused r)
    (v : Word) : memWrite va n v s = .refused r := by
  rw [memWrite, h, andThen_refused]

theorem fetch_of_memRead_refused {r : Refusal} (h : memRead s.pc .word s = .refused r) : fetch s = .refused r := by
  rw [fetch, h, andThen_refused]

/-- With the MMU off and RAM everywhere a read is the memory's value and one recorded bus call (R72). -/
theorem memRead_flatRam (h : s.FlatRam) (va : Word) (n : Size) : memRead va n s =
    .next (.value (s.mem.readSize (accessAddress va n).toNat n), s.logBus (.read (accessAddress va n) n)) := by
  have halign : alignmentFault va n s = false :=
    alignmentFault_eq_false_iff.mpr fun ⟨_, _, hon⟩ => absurd hon (by rw [h.alignmentOff]; decide)
  have hlocate : locate va n false s = .next (.physical (accessAddress va n), s) := by
    simp [locate, halign, h.mmuOff]
  rw [memRead, hlocate, andThen_next]
  simp only [busRead_ram (h.ram _), Reply.ofBus]

/-! ### Block loads (R263, R271) -/

/-- What loads of registers below the program counter may change. -/
def LoadFrame (s t : State) : Prop := t = { s with regs := t.regs, busTrace := t.busTrace }

theorem LoadFrame.refl (s : State) : LoadFrame s s := rfl

theorem LoadFrame.trans {u : State} (h : LoadFrame s t) (h' : LoadFrame t u) : LoadFrame s u := by
  unfold LoadFrame at *
  rw [h', h]

theorem LoadFrame.setReg (s : State) (r : Reg) (v : Word) : LoadFrame s (s.setReg r v) := rfl

theorem LoadFrame.logBus (s : State) (c : BusCall) : LoadFrame s (s.logBus c) := rfl

theorem LoadFrame.mode_eq (h : LoadFrame s t) : t.mode = s.mode := by rw [h]; rfl

theorem LoadFrame.curBank_eq (h : LoadFrame s t) : t.curBank = s.curBank := by rw [h]

theorem LoadFrame.spsr_eq (h : LoadFrame s t) : t.spsr = s.spsr := by rw [h]

theorem LoadFrame.mem_eq (h : LoadFrame s t) : t.mem = s.mem := by rw [h]

theorem LoadFrame.flatRam (h : LoadFrame s t) (hs : s.FlatRam) : t.FlatRam := by
  obtain ⟨hmmu, halign, hram⟩ := hs
  rw [h]
  exact ⟨hmmu, halign, hram⟩

/-- One load from plain RAM: the word is written to its register, then the rest is loaded. -/
theorem loadRegisters_cons (h : s.FlatRam) (r : Reg) (rest : List Reg) (addr : Word) :
    loadRegisters (r :: rest) addr s =
      andThen (writeReg r (s.mem.readWord (addr &&& 0xFFFFFFFC#32).toNat) (s.logBus (.read (accessAddress addr .word)
        .word))) fun t => loadRegisters rest (addr + 4#32) t := by
  rw [loadRegisters, memRead_flatRam h, andThen_next]
  rfl

/-- Loads below the program counter answer, move the address on and keep the frame. -/
theorem loadRegisters_append {low : List Reg} (hlow : ∀ r ∈ low, r ≠ pcReg) (rest : List Reg) (addr : Word)
    (h : s.FlatRam) : ∃ t, LoadFrame s t ∧
      loadRegisters (low ++ rest) addr s = loadRegisters rest (addr + BitVec.ofNat 32 (4 * low.length)) t := by
  induction low generalizing addr s with
  | nil => exact ⟨s, .refl s, by simp⟩
  | cons r low ih =>
    obtain ⟨hr, hlow⟩ := List.forall_mem_cons.mp hlow
    let s1 := (s.logBus (.read (accessAddress addr .word) .word)).setReg r
      (s.mem.readWord (addr &&& 0xFFFFFFFC#32).toNat)
    have hs1 : LoadFrame s s1 := (LoadFrame.logBus s _).trans (.setReg _ r _)
    obtain ⟨t, ht, heq⟩ := ih hlow (addr + 4#32) (hs1.flatRam h)
    refine ⟨t, hs1.trans ht, ?_⟩
    rw [List.cons_append, loadRegisters_cons h, writeReg, if_neg hr, andThen_next, heq, BitVec.add_assoc,
      ← BitVec.ofNat_add, List.length_cons, Nat.mul_succ, Nat.add_comm 4]

/-- A listed program counter is the last register of its list. -/
theorem registersOf_pc {list : BitVec 16} (h : list.getLsbD 15 = true) :
    registersOf list = (registersOf list).filter (· < pcReg) ++ [pcReg] := by
  have hpc : [pcReg].filter (fun r : Reg => list.getLsbD r.val) = [pcReg] := List.filter_cons_of_pos h
  calc registersOf list
    _ = (List.filter (· < pcReg) [0, 1, 2, 3, 4, 5, 6, 7, 8, 9, 10, 11, 12, 13, 14, 15] ++ [pcReg]).filter
        fun r : Reg => list.getLsbD r.val := rfl
    _ = (registersOf list).filter (· < pcReg) ++ [pcReg] := by
      rw [List.filter_append, hpc, List.filter_comm, registersOf]

/-- The base write-back of an LDM, done before the loads (R263). -/
theorem LoadFrame.baseWritten (w : Bool) (rn : Reg) (final : Word) (s : State) :
    LoadFrame s (if w then s.setReg rn final else s) := by
  cases w
  · exact .refl s
  · exact .setReg s rn final

/-- The load of the program counter alone, and the end of its LDM. -/
theorem loadRegisters_pc_finishLoad {list : BitVec 16} (h : s.FlatRam) (hpc : list.getLsbD 15 = true) (sb w : Bool)
    (rn : Reg) (base final slot : Word) :
    (andThen (loadRegisters [pcReg] slot s) fun m => finishLoad sb w rn list base final m.1 m.2) =
      jumpRestoring sb (s.mem.readWord (slot &&& 0xFFFFFFFC#32).toNat)
        (s.logBus (.read (accessAddress slot .word) .word)) := by
  rw [loadRegisters_cons h, writeReg, if_pos rfl, jumpRestoring]
  cases writePc _ _ with
  | next t => simp [loadRegisters, finishLoad, hpc]
  | fault | refused => rfl

/-- An LDM with R15 listed, in plain RAM: the lower registers loaded, then a jump to the word of the slot of R15, with
the CPSR restore where bit S asks for it. -/
theorem loadMultiple_pc {list : BitVec 16} (h : s.FlatRam) (hpc : list.getLsbD 15 = true) (p u sb w : Bool)
    (rn : Reg) : ∃ t, LoadFrame s t ∧ loadMultiple p u sb w rn list s =
      jumpRestoring sb (s.mem.readWord (slotAddress p u (s.reg rn) list pcReg &&& 0xFFFFFFFC#32).toNat) t := by
  have hbased := LoadFrame.baseWritten w rn (blockFinal u (s.reg rn) list) s
  obtain ⟨t, ht, hload⟩ := loadRegisters_append (low := (registersOf list).filter (· < pcReg))
    (fun r hr => ne_of_lt (of_decide_eq_true (List.mem_filter.mp hr).2)) [pcReg]
    (blockStart p u (s.reg rn) list) (hbased.flatRam h)
  have hframe := hbased.trans ht
  refine ⟨t.logBus (.read (accessAddress (slotAddress p u (s.reg rn) list pcReg) .word) .word),
    hframe.trans (.logBus t _), ?_⟩
  rw [← hframe.mem_eq, slotAddress, ← loadRegisters_pc_finishLoad (hframe.flatRam h) hpc sb w rn (s.reg rn)
    (blockFinal u (s.reg rn) list), ← hload, ← registersOf_pc hpc, loadMultiple, hpc, Bool.not_true, Bool.and_false]
  rfl

/-! ### Refused forms -/

theorem exec_ldm_of_refusal {c : Cond} {sb w : Bool} {rn : Reg} {list : BitVec 16} {r : Refusal}
    (hc : condHolds s.cpsr c = true) (h : blockRefusal rn list (sb && !list.getLsbD 15) w = some r) (p u : Bool) :
    exec (.ldm c p u sb w rn list) s = .refused r := by
  rw [exec, execLdm, ifPassed_of_holds hc, h]

theorem exec_stm_of_refusal {c : Cond} {sb w : Bool} {rn : Reg} {list : BitVec 16} {r : Refusal}
    (hc : condHolds s.cpsr c = true) (h : blockRefusal rn list sb w = some r) (p u : Bool) :
    exec (.stm c p u sb w rn list) s = .refused r := by
  rw [exec, execStm, ifPassed_of_holds hc, h]

/-- An empty list comes before every other check (U9). -/
theorem blockRefusal_empty (rn : Reg) (userBank w : Bool) :
    blockRefusal rn 0#16 userBank w = some .emptyRegisterList := rfl

/-- A base that is the program counter comes next (U9). -/
theorem blockRefusal_pc {list : BitVec 16} (h : list ≠ 0#16) (userBank w : Bool) :
    blockRefusal pcReg list userBank w = some .blockBaseIsPc := by
  rw [blockRefusal, if_neg h, if_pos rfl]

/-- With U9 excluded only a user-bank transfer with write-back is refused (U10). -/
theorem blockRefusal_of_ne {rn : Reg} {list : BitVec 16} (h : list ≠ 0#16) (hrn : rn ≠ pcReg) (userBank w : Bool) :
    blockRefusal rn list userBank w = if userBank && w then some .userBankWriteBack else none := by
  rw [blockRefusal, if_neg h, if_neg hrn]

/-- An LDM with R15 listed is no user-bank transfer. -/
theorem exec_ldm_pc {c : Cond} {rn : Reg} {list : BitVec 16} (hc : condHolds s.cpsr c = true) (hrn : rn ≠ pcReg)
    (hpc : list.getLsbD 15 = true) (p u sb w : Bool) :
    exec (.ldm c p u sb w rn list) s = loadMultiple p u sb w rn list s := by
  have hlist : list ≠ 0#16 := by
    rintro rfl
    exact absurd hpc (by decide)
  have hnone : blockRefusal rn list (sb && !list.getLsbD 15) w = none := by
    simp [blockRefusal_of_ne hlist hrn, hpc]
  rw [exec, execLdm, ifPassed_of_holds hc, hnone]

/-- All four single transfers make the check of R242 first (U8). -/
theorem exec_transfer_of_usesPc {c : Cond} {p w : Bool} {rn : Reg} {off : Offset} (hc : condHolds s.cpsr c = true)
    (h : transferUsesPc p w rn off = true) (u : Bool) (rd : Reg) :
    exec (.ldr c p u w rn rd off) s = .refused .transferUsesPc ∧
      exec (.ldrb c p u w rn rd off) s = .refused .transferUsesPc ∧
      exec (.str c p u w rn rd off) s = .refused .transferUsesPc ∧
      exec (.strb c p u w rn rd off) s = .refused .transferUsesPc := by
  simp only [exec, execLdr, execLdrb, execStr, execStrb, ifPassed_of_holds hc, h, if_true, and_self]

/-- The two ways of U8: write-back to R15, R15 as the offset register. -/
theorem transferUsesPc_iff {p w : Bool} {rn : Reg} {off : Offset} : transferUsesPc p w rn off = true ↔
    (p = false ∨ w = true) ∧ rn = pcReg ∨ ∃ sh amt, off = .shifted pcReg sh amt := by
  cases off <;> simp [transferUsesPc, transferWritesBack]

/-- Number 15 is refused whatever the transfer does (U5). -/
theorem psrTransfer_pc {c : Cond} (hc : condHolds s.cpsr c = true) (body : State → Outcome State) :
    psrTransfer c pcReg body s = .refused .psrTransferOfPc := by
  rw [psrTransfer, ifPassed_of_holds hc, if_pos rfl]

/-- The state a data-processing instruction jumps from has the mode it started in. -/
theorem State.mode_flagsWritten (sf : Bool) (o : Alu) (s : State) :
    (if sf then s.setFlags o else s).mode = s.mode := by
  cases sf
  · rfl
  · exact congrArg Mode.ofBits (s.modeBits_setFlags o)

/-- Settles O16: each clause by the check that its form meets first, U1 and U2 by the jump that data processing and LDM
share. -/
theorem refusedForms : Obligations.RefusedForms := by
  unfold Obligations.RefusedForms
  refine ⟨?block, ?misaligned, ?bits4And7, ?compare, ?psr, ?transfer, ?ldm, ?apZero, ?illegalMode⟩
  case block =>
    intro c p u sb w rn list s hc
    refine ⟨⟨exec_ldm_of_refusal hc (blockRefusal_empty _ _ _) p u,
        exec_stm_of_refusal hc (blockRefusal_empty _ _ _) p u⟩,
      fun hlist => ⟨exec_ldm_of_refusal hc (blockRefusal_pc hlist _ _) p u,
        exec_stm_of_refusal hc (blockRefusal_pc hlist _ _) p u⟩, fun hlist hrn => ⟨fun hpc => ?_, ?_⟩⟩
    · exact exec_ldm_of_refusal hc (by rw [blockRefusal_of_ne hlist hrn, hpc]; rfl) p u
    · exact exec_stm_of_refusal hc (blockRefusal_of_ne hlist hrn _ _) p u
  case misaligned =>
    intro o c sf rn op2 s hc hop2 hv
    rw [exec_dpOp_of_holds hc hop2, dataTail_pc, jumpRestoring_misaligned hv]
  case bits4And7 =>
    intro o c sf rn rd op2 s hc hop2
    rw [exec_dpOp, dataOp, ifPassed_of_holds hc, operand2_not_described hop2, andThen_refused]
  case compare =>
    intro o c rn rd op2 s hc hop2
    rw [exec_cmpOp, compareOp, ifPassed_of_holds hc, operand2_not_described hop2, andThen_refused]
  case psr =>
    intro c s hc
    simp only [exec, execMsrCpsr, execMsrCpsrFlgReg, execMsrSpsr, execMsrSpsrFlgReg, psrTransfer_pc hc, and_self]
  case transfer =>
    intro c p u w rn rd off s hc hpc
    exact exec_transfer_of_usesPc hc (transferUsesPc_iff.mpr hpc) u rd
  case ldm =>
    intro c p u sb w rn list s hc hram hrn hpc v
    obtain ⟨t, ht, hload⟩ := loadMultiple_pc hram hpc p u sb w rn
    rw [exec_ldm_pc hc hrn hpc, hload]
    refine ⟨fun hv => jumpRestoring_misaligned hv _ _, ?_⟩
    rintro b rfl hm hbank hmode hv
    exact jumpRestoring_illegalMode hv (ht.mode_eq.trans hm) (ht.curBank_eq.trans hbank) (by rwa [ht.spsr_eq])
  case apZero =>
    intro va v n e s s1 hm ha ht hd hap hS hR
    have hlocate := locate_apZeroWithSAndR hm ha ht hd hap hS hR
    have hread := memRead_of_locate_refused (hlocate false)
    refine ⟨hread, memWrite_of_locate_refused (hlocate true) v, ?_⟩
    rintro rfl rfl
    exact fetch_of_memRead_refused hread
  case illegalMode =>
    intro o c rn op2 b s hc hop2 hm hbank hmode hv
    rw [exec_dpOp_of_holds hc hop2, dataTail_pc]
    exact jumpRestoring_illegalMode hv ((s.mode_flagsWritten true _).trans hm) hbank hmode

end Sys2Proof.Machine

/-! PROOFS. The bank switch and the invariant of the machine (10_state.md R25, R27, R29, R36, R47). -/

namespace Sys2Proof.Machine

variable {s t u : State}

/-! ### Bank switch (R25) -/

/-- The live R8 to R12 after a switch to another bank (R23, R25). -/
theorem r8to12_switchBank {nb : Bank} (h : nb ≠ s.curBank) : (switchBank nb s).r8to12 =
    if nb = .exc .fiq then s.fiqShadow1 else if s.curBank = .exc .fiq then s.fiqShadow0 else s.r8to12 := by
  apply Shadow.ext_word
  intro r hlow hhigh
  have h13 : r ≠ 13 := by rintro rfl; exact absurd hhigh (by decide)
  have h14 : r ≠ 14 := by rintro rfl; exact absurd hhigh (by decide)
  rw [Shadow.word_r8to12 _ ⟨hlow, hhigh⟩, reg_switchBank h, if_neg h13, if_neg h14]
  by_cases hnew : nb = .exc .fiq
  · simp only [hlow, hhigh, hnew, and_self, if_true]
  · by_cases hold : s.curBank = .exc .fiq
    · simp only [hlow, hhigh, hnew, hold, and_self, and_false, if_true, if_false]
    · simp only [hnew, hold, and_false, if_false, Shadow.word_r8to12 s ⟨hlow, hhigh⟩]

theorem BankWords.get_put (w : BankWords) (v : Word) (b b' : Bank) :
    (w.put v b).get b' = if b' = b then v else w.get b' := by
  by_cases h : b' = b
  · rw [if_pos h, h, BankWords.get_put_self]
  · rw [if_neg h, BankWords.get_put_of_ne w v h]

/-- Away and back restores every live register (R25). -/
theorem reg_switchBank_back (nb : Bank) (s : State) (r : Reg) :
    (switchBank s.curBank (switchBank nb s)).reg r = s.reg r := by
  by_cases h : nb = s.curBank
  · rw [h, switchBank_self, switchBank_self]
  · have hback : s.curBank ≠ (switchBank nb s).curBank := by rw [switchBank_curBank]; exact Ne.symm h
    rw [reg_switchBank hback, switchBank_bankR13 h, switchBank_bankR14 h, switchBank_fiqShadow0 h,
      switchBank_fiqShadow1 h, switchBank_curBank, reg_switchBank h, BankWords.get_put_self, BankWords.get_put_self]
    by_cases h13 : r = 13
    · rw [if_pos h13, h13]
    · by_cases h14 : r = 14
      · rw [if_neg h13, if_pos h14, h14]
      · by_cases hr : 8 ≤ r ∧ r ≤ 12
        · by_cases hnew : nb = .exc .fiq
          · have hold : s.curBank ≠ .exc .fiq := fun e => h (hnew.trans e.symm)
            simp [h13, h14, hr, hnew, hold]
          · by_cases hold : s.curBank = .exc .fiq <;> simp [h13, h14, hr, hnew, hold]
        · simp only [h13, h14, hr, false_and, if_false]

/-- Settles O50: the live registers and the shadow slots after a switch, by whether FIQ is entered, left or neither. -/
theorem switchBankExchangesRegisters : Obligations.SwitchBankExchangesRegisters := by
  unfold Obligations.SwitchBankExchangesRegisters
  intro nb s t
  refine ⟨?same, ?other, fun r => reg_switchBank_unbanked nb s, switchBank_frame nb s, reg_switchBank_back nb s,
    switchBank_curBank _ _⟩
  case same =>
    rintro rfl
    exact switchBank_self s
  case other =>
    intro h
    refine ⟨switchBank_curBank nb s, reg_switchBank h 13, reg_switchBank h 14, fun b => ?_, fun b => ?_,
      fun hnew => ?_, fun hold => ?_, fun hnew hold => ?_⟩
    · rw [switchBank_bankR13 h, BankWords.get_put]
    · rw [switchBank_bankR14 h, BankWords.get_put]
    · have hold : s.curBank ≠ .exc .fiq := fun e => h (hnew.trans e.symm)
      exact ⟨by rw [r8to12_switchBank h, if_pos hnew], by rw [switchBank_fiqShadow0 h, if_pos hnew],
        by rw [switchBank_fiqShadow1 h, if_neg hold]⟩
    · have hnew : nb ≠ .exc .fiq := fun e => h (e.trans hold.symm)
      exact ⟨by rw [r8to12_switchBank h, if_neg hnew, if_pos hold], by rw [switchBank_fiqShadow1 h, if_pos hold],
        by rw [switchBank_fiqShadow0 h, if_neg hnew]⟩
    · exact ⟨by rw [r8to12_switchBank h, if_neg hnew, if_neg hold], by rw [switchBank_fiqShadow0 h, if_neg hnew],
        by rw [switchBank_fiqShadow1 h, if_neg hold]⟩

/-! ### What an outcome ensures -/

/-- Every next state of an outcome has the property; a fault and a refusal have none. -/
def Ensures {α : Type} (o : Outcome α) (P : α → Prop) : Prop := ∀ a, o = .next a → P a

section
variable {α β : Type} {o : Outcome α} {k : α → Outcome β} {P : α → Prop} {Q : β → Prop}

theorem ensures_next {a : α} : Ensures (.next a) P ↔ P a :=
  ⟨fun h => h a rfl, fun h _ e => by cases e; exact h⟩

theorem ensures_refused (r : Refusal) : Ensures (.refused r) P := fun _ e => by cases e

theorem Ensures.andThen (h : Ensures o P) (hk : ∀ a, P a → Ensures (k a) Q) : Ensures (andThen o k) Q := by
  intro b hb
  obtain ⟨a, ha, hb⟩ := andThen_eq_next.mp hb
  exact hk a (h a ha) b hb

theorem ensures_andThen_of_forall (hk : ∀ a, Ensures (k a) Q) : Ensures (andThen o k) Q :=
  Ensures.andThen (P := fun _ => True) (fun _ _ => trivial) fun a _ => hk a

theorem Ensures.imp {P' : α → Prop} (h : Ensures o P) (hP : ∀ a, P a → P' a) : Ensures o P' :=
  fun a ha => hP a (h a ha)

end

theorem ensures_ifPassed {P : State → Prop} {c : Cond} {body : State → Outcome State} (hs : P s)
    (hbody : Ensures (body s) P) : Ensures (ifPassed c s body) P := by
  unfold ifPassed
  split
  · exact hbody
  · exact ensures_next.mpr hs

/-- An instruction that checks its operands first. -/
theorem ensures_checked {P : State → Prop} {c : Cond} {check : Bool} {r : Refusal}
    {body : State → Outcome State} (hs : P s) (hbody : check ≠ true → Ensures (body s) P) :
    Ensures (ifPassed c s fun s => if check then .refused r else body s) P := by
  refine ensures_ifPassed hs ?_
  split
  · exact ensures_refused r
  · exact hbody ‹_›

/-! ### The invariant inside a tick

Inside a tick a data fault may be latched, and inside a user-bank transfer the live bank is not the mode's. -/

/-- The clauses of the invariant that say nothing of the mode, the bank or the fault latch. -/
structure State.UnbankedInv (s : State) : Prop where
  pcAligned : s.PcAligned
  fsrInRange : s.FsrInRange
  tagsDistinct : TagsDistinct s.cache
  memoryCanonical : s.mem.wf = true

/-- The invariant but for the fault latch, which is empty only between two ticks. -/
structure State.TickInv (s : State) : Prop extends s.UnbankedInv where
  bankMatches : s.BankMatches

/-- Between two ticks the latch is empty as well. -/
theorem State.inv_iff : s.Inv ↔ s.TickInv ∧ s.faultPending = none :=
  ⟨fun ⟨hbank, hpc, hfault, hfsr, htags, hmem⟩ => ⟨⟨⟨hpc, hfsr, htags, hmem⟩, hbank⟩, hfault⟩,
    fun ⟨⟨⟨hpc, hfsr, htags, hmem⟩, hbank⟩, hfault⟩ => ⟨hbank, hpc, hfault, hfsr, htags, hmem⟩⟩

theorem State.UnbankedInv.congr (h : s.UnbankedInv) (hpc : t.pc = s.pc) (hparams : t.params = s.params := by rfl)
    (hcp15 : t.cp15 = s.cp15 := by rfl) (hcache : t.cache = s.cache := by rfl) (hmem : t.mem = s.mem := by rfl) :
    t.UnbankedInv := by
  obtain ⟨hal, hfsr, htags, hwf⟩ := h
  exact ⟨by rwa [State.PcAligned, hpc], by rwa [State.FsrInRange, hparams, hcp15], by rwa [hcache], by rwa [hmem]⟩

theorem State.BankMatches.congr (h : s.BankMatches) (hmode : t.modeBits = s.modeBits)
    (hbank : t.curBank = s.curBank) : t.BankMatches := by
  rwa [State.BankMatches, State.mode, hmode, hbank]

/-- A step of a transfer: status word and bank are left, the clauses free of the bank are kept. -/
structure TransferStep (s t : State) : Prop where
  cpsr_eq : t.cpsr = s.cpsr
  curBank_eq : t.curBank = s.curBank
  unbankedInv : s.UnbankedInv → t.UnbankedInv

theorem TransferStep.refl (s : State) : TransferStep s s := ⟨rfl, rfl, id⟩

theorem TransferStep.trans (h : TransferStep s t) (h' : TransferStep t u) : TransferStep s u :=
  ⟨h'.cpsr_eq.trans h.cpsr_eq, h'.curBank_eq.trans h.curBank_eq, h'.unbankedInv ∘ h.unbankedInv⟩

theorem TransferStep.tickInv (h : TransferStep s t) (hs : s.TickInv) : t.TickInv :=
  ⟨h.unbankedInv hs.toUnbankedInv, hs.bankMatches.congr (congrArg (·.extractLsb' 0 5) h.cpsr_eq) h.curBank_eq⟩

theorem TransferStep.setReg {r : Reg} (h : r ≠ pcReg) (v : Word) (s : State) : TransferStep s (s.setReg r v) :=
  ⟨rfl, rfl, fun hs => hs.congr (State.pc_setReg_of_ne s h v)⟩

theorem TransferStep.latchDataFault (f : FaultCode) (s : State) : TransferStep s (latchDataFault f s) := by
  unfold Machine.latchDataFault
  split
  · exact .refl s
  · exact ⟨rfl, rfl, fun hs => hs.congr rfl⟩

theorem TransferStep.jumpTo {v : Word} (h : v.extractLsb' 0 2 = 0#2) (s : State) : TransferStep s (jumpTo v s) := by
  refine ⟨rfl, rfl, fun ⟨_, hfsr, htags, hwf⟩ => ⟨?_, hfsr, htags, hwf⟩⟩
  rw [State.PcAligned, Machine.jumpTo, flushPrefetch, State.pc_setPf, State.pc_setReg_pcReg, h]

theorem ensures_writePc (v : Word) (s : State) : Ensures (writePc v s) (TransferStep s) := by
  unfold writePc
  split
  · exact ensures_next.mpr (.jumpTo ‹_› s)
  · exact ensures_refused _

theorem ensures_writeReg (r : Reg) (v : Word) (s : State) : Ensures (writeReg r v s) (TransferStep s) := by
  unfold writeReg
  split
  · exact ensures_writePc v s
  · exact ensures_next.mpr (.setReg ‹_› v s)

/-! ### The tags of the cache (R111 to R117) -/

/-- Lines that are enabled only where a line was, under its tag, keep the tags distinct. -/
theorem TagsDistinct.of_lines {c c' : Cache} (h : TagsDistinct c)
    (hlines : ∀ set i, ((linesOf c' set).get i).enabled = true →
      ((linesOf c set).get i).enabled = true ∧ ((linesOf c' set).get i).tag = ((linesOf c set).get i).tag) :
    TagsDistinct c' := by
  intro set i j hij hi hj
  obtain ⟨hi, hti⟩ := hlines set i hi
  obtain ⟨hj, htj⟩ := hlines set j hj
  rw [hti, htj]
  exact h set i j hij hi hj

theorem get_set_fin {α : Type} {n : Nat} (v : Vector α n) (i j : Fin n) (a : α) :
    (v.set i a).get j = if j = i then a else v.get j := by
  rw [Vector.get_eq_getElem, Vector.get_eq_getElem, Vector.getElem_set]
  simp only [Fin.ext_iff, eq_comm]

theorem linesOf_set (c : Cache) (set set' : Fin 4) (lines : Vector CacheLine 128) :
    linesOf (c.set set lines) set' = if set' = set then lines else linesOf c set' := get_set_fin c set set' lines

/-- After a miss no enabled line of the set has the tag looked for (R112). -/
theorem tag_ne_of_cacheLookup_none {c : Cache} {a : Word} (h : cacheLookup c a = none) {i : Fin 128}
    (hi : ((linesOf c (setOf a)).get i).enabled = true) : ((linesOf c (setOf a)).get i).tag ≠ tagOf a := by
  have hmem : (linesOf c (setOf a)).get i ∈ (linesOf c (setOf a)).toList := by
    simp [Vector.get_eq_getElem]
  have hmiss := List.find?_eq_none.mp h _ hmem
  simpa [CacheLine.hits, hi] using hmiss

/-- A refill that followed a miss keeps the tags distinct (R113, R114). -/
theorem TagsDistinct.putLine {c : Cache} (h : TagsDistinct c) {a : Word} (hmiss : cacheLookup c a = none)
    (slot : Fin 128) {l : CacheLine} (hl : l.tag = tagOf a) : TagsDistinct (putLine c (setOf a) slot l) := by
  intro set i j hij
  rw [Machine.putLine, linesOf_set]
  split
  · rw [get_set_fin, get_set_fin]
    split
    · rename_i hi
      rw [if_neg fun hj => hij (hi.trans hj.symm), hl]
      exact fun _ hj => (tag_ne_of_cacheLookup_none hmiss hj).symm
    · split
      · rw [hl]
        exact fun hi _ => tag_ne_of_cacheLookup_none hmiss hi
      · exact h _ i j hij
  · exact h _ i j hij

theorem CacheLine.write_tag (l : CacheLine) (a v : Word) (n : Size) : (l.write a v n).tag = l.tag := by
  cases n <;> rfl

theorem CacheLine.write_enabled (l : CacheLine) (a v : Word) (n : Size) : (l.write a v n).enabled = l.enabled := by
  cases n <;> rfl

/-- The update on a write changes data bytes only (R116). -/
theorem TagsDistinct.cacheUpdateOnWrite (h : TagsDistinct s.cache) (ta : Word) (n : Size) (v : Word) :
    TagsDistinct (cacheUpdateOnWrite ta n v s).cache := by
  refine h.of_lines fun set i => ?_
  rw [Machine.cacheUpdateOnWrite, State.setCache_cache, linesOf_set]
  split
  · subst set
    rw [Vector.get_eq_getElem, Vector.getElem_map, ← Vector.get_eq_getElem]
    split
    · rw [CacheLine.write_enabled, CacheLine.write_tag]
      exact fun hi => ⟨hi, rfl⟩
    · exact fun hi => ⟨hi, rfl⟩
  · exact fun hi => ⟨hi, rfl⟩

theorem cacheClear_disabled (s : State) (set : Fin 4) (i : Fin 128) :
    ((linesOf (cacheClear s).cache set).get i).enabled = false := by
  simp [cacheClear, linesOf, Vector.get_eq_getElem]

theorem tagsDistinct_cacheClear (s : State) : TagsDistinct (cacheClear s).cache := by
  intro set i j _ hi
  rw [cacheClear_disabled] at hi
  cases hi

/-! ### Virtual reads -/

theorem TransferStep.of_readFrame (h : ReadFrame s t) (hcache : TagsDistinct s.cache → TagsDistinct t.cache) :
    TransferStep s t := by
  refine ⟨h.cpsr_eq, h.curBank_eq, fun ⟨hal, hfsr, htags, hwf⟩ => ⟨?_, ?_, hcache htags, by rwa [h.mem_eq]⟩⟩
  · rwa [State.PcAligned, h.pc_eq]
  · rwa [State.FsrInRange, h.params_eq, h.cp15_eq]

theorem TransferStep.busRead (pa : Word) (n : Size) (s : State) : TransferStep s (busRead pa n s).2 :=
  .of_readFrame (busRead_frame pa n s) fun h => by rwa [busRead_cache]

theorem ensures_locate (va : Word) (n : Size) (isWrite : Bool) (s : State) :
    Ensures (locate va n isWrite s) fun p => TransferStep s p.2 := by
  intro p hp
  obtain ⟨hframe, hcache⟩ := locate_eq_next hp
  exact .of_readFrame hframe fun h => by rwa [hcache]

theorem TransferStep.cacheRefillAndRead {ta : Word} (hmiss : cacheLookup s.cache ta = none) (pa : Word) (n : Size) :
    TransferStep s (cacheRefillAndRead ta pa n s).2 := by
  refine .of_readFrame (cacheRefillAndRead_frame ta pa n s) fun htags => ?_
  have hreads := refillReads_cache (pa &&& 0xFFFFFFF0#32) s
  unfold Machine.cacheRefillAndRead
  split <;> rename_i heq <;> rw [heq] at hreads
  · rwa [hreads]
  · dsimp only [drawSlot, State.setCache_cache, State.setDraws_cache]
    rw [hreads]
    exact htags.putLine hmiss _ rfl

theorem TransferStep.readMapped (e : TlbEntry) (pa va : Word) (n : Size) (s : State) :
    TransferStep s (readMapped e pa va n s).2 := by
  unfold Machine.readMapped
  dsimp only
  split
  · split
    · exact .refl s
    · split <;> rw [Reply.ofBus_snd]
      · exact .cacheRefillAndRead ‹_› pa n
      · exact .busRead pa n s
  · rw [Reply.ofBus_snd]
    exact .busRead pa n s

theorem ensures_memRead (va : Word) (n : Size) (s : State) :
    Ensures (memRead va n s) fun m => TransferStep s m.2 := by
  refine (ensures_locate va n false s).andThen fun p hp => ?_
  split <;> refine ensures_next.mpr ?_
  · exact hp
  · rw [Reply.ofBus_snd]
    exact hp.trans (.busRead _ n _)
  · exact hp.trans (.readMapped _ _ va n _)

/-! ### Virtual writes -/

theorem wordAligned_iff {a : Word} : a.extractLsb' 0 2 = 0#2 ↔ a.toNat % 4 = 0 := by
  rw [BitVec.toNat_eq, BitVec.extractLsb'_toNat, Nat.shiftRight_zero]
  rfl

/-- A word-aligned address leaves room for its word. -/
theorem end_le_of_aligned {a : Word} (h : a.extractLsb' 0 2 = 0#2) : a.toNat + 4 ≤ 2 ^ 32 := by
  have hmod := wordAligned_iff.mp h
  have hlt := a.isLt
  omega

theorem accessAddress_word_aligned (va : Word) : (accessAddress va .word).extractLsb' 0 2 = 0#2 := by
  have hmask : (0xFFFFFFFC#32).extractLsb' 0 2 = 0#2 := by decide
  rw [accessAddress, BitVec.extractLsb'_and, hmask, BitVec.and_zero]

/-- Section and page bases have their low bits clear, so the low bits of an address pass through (R91). -/
theorem physAddr_aligned (e : TlbEntry) {va : Word} (h : va.extractLsb' 0 2 = 0#2) :
    (e.physAddr va).extractLsb' 0 2 = 0#2 := by
  have hsection : (0xFFF00000#32).extractLsb' 0 2 = 0#2 := by decide
  have hlarge : (0xFFFF0000#32).extractLsb' 0 2 = 0#2 := by decide
  have hsmall : (0xFFFFF000#32).extractLsb' 0 2 = 0#2 := by decide
  unfold TlbEntry.physAddr
  split_ifs <;>
    simp only [BitVec.extractLsb'_or, BitVec.extractLsb'_and, h, hsection, hlarge, hsmall, BitVec.and_zero,
      BitVec.zero_and, BitVec.or_zero]

/-- A word access never crosses the end of the address space, since it goes to an aligned address (R67). -/
theorem target_aligned {va pa : Word} {isWrite : Bool} {p : Located × State}
    (h : locate va .word isWrite s = .next p) (hpa : p.1.target = some pa) : pa.extractLsb' 0 2 = 0#2 := by
  have hva := accessAddress_word_aligned va
  unfold locate at h
  split at h
  · cases h; cases hpa
  · split at h
    · split at h
      · cases h; cases hpa
      · split at h
        · cases h; cases hpa; exact physAddr_aligned _ hva
        · cases h; cases hpa
        · cases h
    · cases h; cases hpa; exact hva

theorem target_end_le {va pa : Word} {n : Size} {isWrite : Bool} {p : Located × State}
    (h : locate va n isWrite s = .next p) (hpa : p.1.target = some pa) : pa.toNat + sizeBytes n ≤ 2 ^ 32 := by
  cases n with
  | byte => exact pa.isLt
  | word => exact end_le_of_aligned (target_aligned h hpa)

theorem tagsDistinct_writeThrough (h : TagsDistinct s.cache) (ta pa : Word) (n : Size) (v : Word) (f : FaultCode) :
    TagsDistinct (writeThrough ta pa n v f s).2.cache := by
  have hbus := busWrite_cache pa n v s
  unfold writeThrough
  split <;> rename_i heq <;> rw [heq] at hbus
  · exact TagsDistinct.cacheUpdateOnWrite (by rwa [hbus]) ta n v
  · rwa [hbus]

/-- A virtual write refills no line (R71, R116). -/
theorem tagsDistinct_memWrite {va : Word} {n : Size} {v : Word} (h : TagsDistinct s.cache) :
    Ensures (memWrite va n v s) fun m => TagsDistinct m.2.cache := by
  have hlocate : Ensures (locate va n true s) fun p => TagsDistinct p.2.cache := by
    intro p hp
    rwa [(locate_eq_next hp).2]
  refine hlocate.andThen fun p hp => ?_
  split <;> refine ensures_next.mpr ?_
  · exact hp
  · exact tagsDistinct_writeThrough hp _ _ n v _
  · exact tagsDistinct_writeThrough hp _ _ n v _

theorem memoryCanonical_memWrite {va : Word} {n : Size} {v : Word} (h : s.mem.wf = true) :
    Ensures (memWrite va n v s) fun m => m.2.mem.wf = true := by
  intro m hm
  obtain ⟨p, hp, hsame | ⟨pa, hpa, hwritten⟩⟩ := memWrite_mem hm
  · rwa [hsame]
  · rw [hwritten]
    exact Memory.wf_writeSize h (target_end_le hp hpa) v

theorem ensures_memWrite (va : Word) (n : Size) (v : Word) (s : State) :
    Ensures (memWrite va n v s) fun m => TransferStep s m.2 := by
  intro m hm
  have hframe := memWrite_frame hm
  refine ⟨hframe.cpsr_eq, hframe.curBank_eq, fun ⟨hal, hfsr, htags, hwf⟩ =>
    ⟨?_, ?_, tagsDistinct_memWrite htags m hm, memoryCanonical_memWrite hwf m hm⟩⟩
  · rwa [State.PcAligned, hframe.pc_eq]
  · rwa [State.FsrInRange, hframe.params_eq, hframe.cp15_eq]

/-! ### Status word and banks -/

theorem extractLsb'_mode_append {n : Nat} (x : BitVec n) (y : BitVec 28) :
    (x ++ y).extractLsb' 0 5 = y.extractLsb' 0 5 := by
  ext i hi
  simp [BitVec.getLsbD_append, show i < 28 by omega]

/-- The flags lie above the mode field. -/
theorem State.modeBits_setCpsr_withFlagBits (v : Word) (s : State) :
    (s.setCpsr (withFlagBits s.cpsr v)).modeBits = s.modeBits := by
  calc (withFlagBits s.cpsr v).extractLsb' 0 5 = (s.cpsr.extractLsb' 0 28).extractLsb' 0 5 :=
        extractLsb'_mode_append _ _
    _ = s.modeBits := by
      ext i hi
      simp [State.modeBits]

/-- A status word with the same mode field keeps the invariant. -/
theorem State.TickInv.setCpsr (h : s.TickInv) {v : Word} (hv : (s.setCpsr v).modeBits = s.modeBits) :
    (s.setCpsr v).TickInv :=
  ⟨h.toUnbankedInv.congr rfl, h.bankMatches.congr hv rfl⟩

theorem State.TickInv.setFlags (h : s.TickInv) (o : Alu) : (s.setFlags o).TickInv := h.setCpsr (s.modeBits_setFlags o)

theorem State.UnbankedInv.switchBank (h : s.UnbankedInv) (nb : Bank) : (switchBank nb s).UnbankedInv :=
  h.congr (pc_switchBank nb s) (switchBank_params nb s) (switchBank_cp15 nb s) (switchBank_cache nb s)
    (switchBank_mem nb s)

theorem ensures_writeCpsr (h : s.UnbankedInv) (v : Word) : Ensures (writeCpsr v s) State.TickInv := by
  unfold writeCpsr
  split
  · rename_i m hm
    have hswitched : (switchMode m s).UnbankedInv :=
      State.UnbankedInv.switchBank (s := s.setCpsr (withMode s.cpsr m)) (h.congr rfl) m.bank
    exact ensures_next.mpr ⟨hswitched.congr rfl, m, hm, switchBank_curBank _ _⟩
  · exact ensures_refused _

theorem ensures_restoreCpsr (h : s.UnbankedInv) : Ensures (restoreCpsr s) State.TickInv :=
  ensures_andThen_of_forall fun _ => ensures_writeCpsr h _

/-- Changing the bank for a transfer and changing back keeps the invariant (R268). -/
theorem State.TickInv.transferBack (h : s.TickInv) {nb : Bank} (ht : TransferStep (switchBank nb s) t) :
    (switchBank s.curBank t).TickInv := by
  have hunbanked := ht.unbankedInv (h.toUnbankedInv.switchBank nb)
  refine ⟨hunbanked.switchBank _, h.bankMatches.congr ?_ (switchBank_curBank _ _)⟩
  rw [State.modeBits, switchBank_cpsr, ht.cpsr_eq, switchBank_cpsr]
  rfl

/-! ### Exceptions -/

/-- The entry makes the bank the mode's, whatever it was before (R322). -/
theorem tickInv_raiseException (h : s.UnbankedInv) (b : ExcBank) (savedPC : Word) {vectorPC : Word}
    (hv : vectorPC.extractLsb' 0 2 = 0#2) : (raiseException b savedPC vectorPC s).TickInv where
  pcAligned := by rw [State.PcAligned, raiseException_pc, hv]
  fsrInRange := by
    have hswitched := (h.switchBank (.exc b)).fsrInRange
    rwa [raiseException_eq]
  tagsDistinct := by
    have hswitched := (h.switchBank (.exc b)).tagsDistinct
    rwa [raiseException_eq]
  memoryCanonical := by
    have hswitched := (h.switchBank (.exc b)).memoryCanonical
    rwa [raiseException_eq]
  bankMatches := ⟨b.mode, raiseException_mode b savedPC vectorPC s,
    by rw [raiseException_curBank, ExcBank.bank_mode]⟩

theorem raiseException_faultPending (b : ExcBank) (savedPC vectorPC : Word) (s : State) :
    (raiseException b savedPC vectorPC s).faultPending = s.faultPending := by
  simp [raiseException_eq]

theorem tickInv_raiseSoftwareInterrupt (h : s.UnbankedInv) : (raiseSoftwareInterrupt s).TickInv :=
  tickInv_raiseException h .svc _ (by decide)

theorem tickInv_raiseUndefined (h : s.UnbankedInv) : (raiseUndefined s).TickInv :=
  tickInv_raiseException h .und _ (by decide)

theorem tickInv_raiseUnrecognised (h : s.UnbankedInv) : (raiseUnrecognised s).TickInv := by
  unfold raiseUnrecognised
  split
  · exact tickInv_raiseSoftwareInterrupt h
  · exact tickInv_raiseUndefined h

/-- A report writes zeros into the reserved bits of the fault status register (R36, R337). -/
theorem State.UnbankedInv.reportFault (h : s.UnbankedInv) (f : FaultCode) : (reportFault f s).UnbankedInv := by
  unfold Machine.reportFault
  split
  · obtain ⟨hal, _, htags, hwf⟩ := h
    refine ⟨hal, fun _ => ?_, htags, hwf⟩
    rw [State.setCp15_cp15, BitVec.append_assoc]
    exact high_of_append 0#24 _
  · exact h

/-! ### Data processing, multiply and PSR transfer -/

theorem ensures_jumpRestoring (h : s.TickInv) (restore : Bool) (v : Word) :
    Ensures (jumpRestoring restore v s) State.TickInv := by
  refine (ensures_writePc v s).andThen fun t ht => ?_
  split
  · exact ensures_restoreCpsr (ht.unbankedInv h.toUnbankedInv)
  · exact ensures_next.mpr (ht.tickInv h)

theorem State.TickInv.setReg (h : s.TickInv) {r : Reg} (hr : r ≠ pcReg) (v : Word) : (s.setReg r v).TickInv :=
  (TransferStep.setReg hr v s).tickInv h

theorem State.TickInv.flagsWritten (h : s.TickInv) (sf : Bool) (o : Alu) :
    (if sf then s.setFlags o else s).TickInv := by
  cases sf
  · exact h
  · exact h.setFlags o

theorem ensures_dataTail (h : s.TickInv) (sf : Bool) (rd : Reg) (o : Alu) :
    Ensures (dataTail sf rd o s) State.TickInv := by
  have hflags := h.flagsWritten sf o
  by_cases hrd : rd = pcReg
  · subst hrd
    rw [dataTail_pc]
    exact ensures_jumpRestoring hflags sf o.result
  · rw [dataTail, if_neg hrd]
    exact ensures_next.mpr (hflags.setReg hrd _)

theorem ensures_dataOp (h : s.TickInv) (c : Cond) (sf : Bool) (rd : Reg) (op2 : Operand2)
    (f : State → Word → Bool → Alu) : Ensures (dataOp c sf rd op2 f s) State.TickInv :=
  ensures_ifPassed h (ensures_andThen_of_forall fun _ => ensures_dataTail h sf rd _)

theorem ensures_compareOp (h : s.TickInv) (c : Cond) (op2 : Operand2) (f : State → Word → Bool → Alu) :
    Ensures (compareOp c op2 f s) State.TickInv :=
  ensures_ifPassed h (ensures_andThen_of_forall fun _ => ensures_next.mpr (h.setFlags _))

theorem ensures_multiplyOp (h : s.TickInv) (c : Cond) (sf : Bool) {rd : Reg} {usesPc : Bool}
    (hrd : rd = pcReg → usesPc = true) (result : State → Word) :
    Ensures (multiplyOp c sf rd usesPc result s) State.TickInv :=
  ensures_checked h fun hpc => ensures_next.mpr ((h.flagsWritten sf _).setReg (fun e => hpc (hrd e)) _)

theorem ensures_psrTransfer (h : s.TickInv) (c : Cond) {r : Reg} {body : State → Outcome State}
    (hbody : r ≠ pcReg → Ensures (body s) State.TickInv) : Ensures (psrTransfer c r body s) State.TickInv := by
  refine ensures_ifPassed h ?_
  split
  · exact ensures_refused _
  · exact hbody ‹_›

theorem ensures_execMrsSpsr (h : s.TickInv) (c : Cond) (rd : Reg) : Ensures (execMrsSpsr c rd s) State.TickInv := by
  refine ensures_psrTransfer h c fun hrd => ?_
  split
  · exact ensures_andThen_of_forall fun _ => ensures_next.mpr (h.setReg hrd _)
  · have hdrawn : (drawWord s).2.TickInv := ⟨h.toUnbankedInv.congr rfl, h.bankMatches⟩
    exact ensures_next.mpr (hdrawn.setReg hrd _)

theorem ensures_msrWhole (h : s.TickInv) (v : Word) : Ensures (msrWhole v s) State.TickInv := by
  unfold msrWhole
  split
  · exact ensures_writeCpsr h.toUnbankedInv v
  · exact ensures_next.mpr (h.setCpsr (s.modeBits_setCpsr_withFlagBits v))

theorem ensures_msrFlags (h : s.TickInv) (v : Word) : Ensures (msrFlags v s) State.TickInv :=
  ensures_next.mpr (h.setCpsr (s.modeBits_setCpsr_withFlagBits v))

theorem ensures_msrSaved (h : s.TickInv) (f : Word → Word) : Ensures (msrSaved f s) State.TickInv := by
  unfold msrSaved
  split
  · exact ensures_andThen_of_forall fun _ => ensures_next.mpr ⟨h.toUnbankedInv.congr rfl, h.bankMatches⟩
  · exact ensures_next.mpr h

/-! ### Coprocessor 15, branches and traps -/

/-- A write of coprocessor 15 touches its registers, the TLB and the cache, nothing else (R298 to R305). -/
theorem cp15Write_frame (crn : BitVec 4) (opc2 : BitVec 3) (v : Word) (s : State) : cp15Write crn opc2 v s = { s with
    cp15 := (cp15Write crn opc2 v s).cp15, tlb := (cp15Write crn opc2 v s).tlb
    cache := (cp15Write crn opc2 v s).cache } := by
  unfold cp15Write
  split_ifs <;> rfl

/-- Only the T variant lets software write the fault status register (R36, R302). -/
theorem cp15Write_fsr (h : s.params.tVariant = false) (crn : BitVec 4) (opc2 : BitVec 3) (v : Word) :
    (cp15Write crn opc2 v s).cp15.fsr = s.cp15.fsr := by
  simp only [cp15Write, h, Bool.false_eq_true, if_false]
  split_ifs <;> rfl

theorem tagsDistinct_cp15Write (h : TagsDistinct s.cache) (crn : BitVec 4) (opc2 : BitVec 3) (v : Word) :
    TagsDistinct (cp15Write crn opc2 v s).cache := by
  by_cases hclear : crn = 7#4
  · subst hclear
    exact tagsDistinct_cacheClear s
  · simp only [cp15Write, if_neg hclear]
    split_ifs <;> exact h

theorem State.TickInv.cp15Write (h : s.TickInv) (crn : BitVec 4) (opc2 : BitVec 3) (v : Word) :
    (cp15Write crn opc2 v s).TickInv := by
  obtain ⟨⟨hal, hfsr, htags, hwf⟩, hbank⟩ := h
  have hframe := cp15Write_frame crn opc2 v s
  refine ⟨⟨?_, fun hT => ?_, tagsDistinct_cp15Write htags crn opc2 v, ?_⟩, ?_⟩
  · rwa [hframe]
  · have hsame : s.params.tVariant = false := by rwa [hframe] at hT
    rw [cp15Write_fsr hsame]
    exact hfsr hsame
  · rwa [hframe]
  · rwa [hframe]

theorem ensures_cp15Transfer (h : s.TickInv) (c : Cond) {rd : Reg} {body : State → State}
    (hbody : rd ≠ pcReg → (body s).TickInv) : Ensures (cp15Transfer c rd body s) State.TickInv := by
  refine ensures_ifPassed h ?_
  split
  · exact ensures_next.mpr (tickInv_raiseUnrecognised h.toUnbankedInv)
  · split
    · exact ensures_refused _
    · exact ensures_next.mpr (hbody ‹_›)

theorem ensures_writePc_tickInv (h : s.TickInv) (v : Word) : Ensures (writePc v s) State.TickInv :=
  (ensures_writePc v s).imp fun _ ht => ht.tickInv h

theorem ensures_execBl (h : s.TickInv) (c : Cond) (off24 : BitVec 24) : Ensures (execBl c off24 s) State.TickInv :=
  ensures_ifPassed h (ensures_writePc_tickInv (h.setReg (r := 14) (by decide) _) _)

theorem ensures_undefinedOp (h : s.TickInv) (c : Cond) : Ensures (undefinedOp c s) State.TickInv :=
  ensures_ifPassed h (ensures_next.mpr (tickInv_raiseUndefined h.toUnbankedInv))

/-! ### Single transfers and swaps -/

theorem TransferStep.writeBack {p w : Bool} {rn : Reg} {off : Offset} (h : transferUsesPc p w rn off ≠ true)
    (target : Word) (s : State) : TransferStep s (writeBack p w rn target s) := by
  unfold Machine.writeBack
  split
  · rename_i hwb
    refine .setReg (fun hrn => h ?_) target s
    simp [transferUsesPc, hwb, hrn]
  · exact .refl s

theorem ensures_loadSingle (h : s.TickInv) {p w : Bool} {rn : Reg} {off : Offset}
    (hpc : transferUsesPc p w rn off ≠ true) (n : Size) (convert : Word → Word → Word) (u : Bool) (rd : Reg) :
    Ensures (loadSingle n convert p u w rn rd off s) State.TickInv := by
  refine (ensures_memRead _ n s).andThen fun m hm => ?_
  split
  · refine ensures_next.mpr (TransferStep.tickInv ?_ h)
    exact (hm.trans (.latchDataFault _ _)).trans (.writeBack hpc _ _)
  · exact (ensures_writeReg rd _ _).imp fun _ ht => ((hm.trans (.writeBack hpc _ _)).trans ht).tickInv h

theorem ensures_storeSingle (h : s.TickInv) {p w : Bool} {rn : Reg} {off : Offset}
    (hpc : transferUsesPc p w rn off ≠ true) (n : Size) (u : Bool) (rd : Reg) :
    Ensures (storeSingle n p u w rn rd off s) State.TickInv := by
  refine (ensures_memWrite _ n _ s).andThen fun m hm => ?_
  split <;> refine ensures_next.mpr (TransferStep.tickInv ?_ h)
  · exact (hm.trans (.latchDataFault _ _)).trans (.writeBack hpc _ _)
  · exact hm.trans (.writeBack hpc _ _)

theorem ensures_swapOp (h : s.TickInv) {rd : Reg} (hrd : rd ≠ pcReg) (n : Size) (convert : Word → Word → Word)
    (rn rm : Reg) : Ensures (swapOp n convert rn rd rm s) State.TickInv := by
  refine (ensures_memRead _ n s).andThen fun m hm => ?_
  split
  · exact ensures_next.mpr ((hm.trans (.latchDataFault _ _)).tickInv h)
  · refine (ensures_memWrite _ n _ m.2).andThen fun w hw => ?_
    split <;> refine ensures_next.mpr (TransferStep.tickInv ?_ h)
    · exact ((hm.trans hw).trans (.latchDataFault _ _)).trans (.setReg hrd _ _)
    · exact (hm.trans hw).trans (.setReg hrd _ _)

theorem ensures_execLdrb (h : s.TickInv) (c : Cond) (p u w : Bool) (rn rd : Reg) (off : Offset) :
    Ensures (execLdrb c p u w rn rd off s) State.TickInv := by
  refine ensures_checked h fun hpc => ?_
  split
  · exact ensures_refused _
  · exact ensures_loadSingle h hpc .byte _ u rd

theorem ne_pcReg_of_swapUsesPc {rn rd rm : Reg} (h : swapUsesPc rn rd rm ≠ true) : rd ≠ pcReg := by
  rintro rfl
  simp [swapUsesPc] at h

/-! ### Block transfers -/

theorem ensures_loadRegisters (rs : List Reg) (addr : Word) (s : State) :
    Ensures (loadRegisters rs addr s) fun m => TransferStep s m.2 := by
  induction rs generalizing addr s with
  | nil => exact ensures_next.mpr (.refl s)
  | cons r rest ih =>
    refine (ensures_memRead addr .word s).andThen fun m hm => ?_
    split
    · exact ensures_next.mpr (hm.trans (.latchDataFault _ _))
    · exact (ensures_writeReg r _ m.2).andThen fun s1 hs1 =>
        (ih (addr + 4#32) s1).imp fun _ hrest => (hm.trans hs1).trans hrest

/-- The write-back a store still has to do is not to the program counter (U9). -/
theorem ensures_storeOne (r : Reg) (addr : Word) {pending : Option (Reg × Word)}
    (hpc : ∀ q ∈ pending, q.1 ≠ pcReg) (s : State) : Ensures (storeOne r addr pending s) (TransferStep s) := by
  refine (ensures_memWrite addr .word _ s).andThen fun m hm => ?_
  rcases m with ⟨_ | f, t⟩ <;> rcases pending with _ | ⟨rn, final⟩ <;> refine ensures_next.mpr ?_
  · exact hm
  · exact hm.trans (.setReg (hpc _ rfl) _ _)
  · exact hm.trans (.latchDataFault _ _)
  · exact (hm.trans (.latchDataFault _ _)).trans (.setReg (hpc _ rfl) _ _)

theorem ensures_storeRegisters (rs : List Reg) (addr : Word) {pending : Option (Reg × Word)}
    (hpc : ∀ q ∈ pending, q.1 ≠ pcReg) (s : State) :
    Ensures (storeRegisters rs addr pending s) (TransferStep s) := by
  induction rs generalizing addr pending s with
  | nil => exact ensures_next.mpr (.refl s)
  | cons r rest ih =>
    exact (ensures_storeOne r addr hpc s).andThen fun s1 hs1 =>
      (ih (addr + 4#32) (fun _ hq => by cases hq) s1).imp fun _ hrest => hs1.trans hrest

theorem State.TickInv.baseWritten (h : s.TickInv) {rn : Reg} (hrn : rn ≠ pcReg) (w : Bool) (final : Word) :
    (if w then s.setReg rn final else s).TickInv := by
  cases w
  · exact h
  · exact h.setReg hrn final

theorem ensures_finishLoad (h : s.TickInv) {rn : Reg} (hrn : rn ≠ pcReg) (sb w : Bool) (list : BitVec 16)
    (base final : Word) (aborted : Bool) : Ensures (finishLoad sb w rn list base final aborted s) State.TickInv := by
  unfold finishLoad
  split
  · exact ensures_next.mpr (h.setReg hrn _)
  · split
    · exact ensures_restoreCpsr h.toUnbankedInv
    · exact ensures_next.mpr h

/-- A user-bank transfer works in the main bank and comes back (R268). -/
theorem State.TickInv.transferViewBack (h : s.TickInv) {userBank : Bool}
    (ht : TransferStep (transferView userBank s) t) :
    (if userBank then switchBank s.curBank t else t).TickInv := by
  cases userBank
  · exact ht.tickInv h
  · exact h.transferBack ht

theorem ensures_loadMultiple (h : s.TickInv) {rn : Reg} (hrn : rn ≠ pcReg) (p u sb w : Bool) (list : BitVec 16) :
    Ensures (loadMultiple p u sb w rn list s) State.TickInv := by
  have hbased := h.baseWritten hrn w (blockFinal u (s.reg rn) list)
  have hbank := (LoadFrame.baseWritten w rn (blockFinal u (s.reg rn) list) s).curBank_eq
  refine (ensures_loadRegisters _ _ _).andThen fun m hm => ensures_finishLoad ?_ hrn sb w list _ _ _
  have hback := hbased.transferViewBack hm
  rwa [hbank] at hback

theorem ensures_storeMultiple (h : s.TickInv) {rn : Reg} (hrn : rn ≠ pcReg) (p u sb w : Bool) (list : BitVec 16) :
    Ensures (storeMultiple p u sb w rn list s) State.TickInv := by
  have hpending : ∀ q ∈ (if w && !sb then some (rn, blockFinal u (s.reg rn) list) else none), q.1 ≠ pcReg := by
    intro q hq
    split at hq
    · cases hq; exact hrn
    · cases hq
  exact (ensures_storeRegisters _ _ hpending _).andThen fun t ht => ensures_next.mpr (h.transferViewBack ht)

theorem ne_pcReg_of_blockRefusal_none {rn : Reg} {list : BitVec 16} {userBank w : Bool}
    (h : blockRefusal rn list userBank w = none) : rn ≠ pcReg := by
  rintro rfl
  unfold blockRefusal at h
  split at h
  · cases h
  · cases h

theorem ensures_execLdm (h : s.TickInv) (c : Cond) (p u sb w : Bool) (rn : Reg) (list : BitVec 16) :
    Ensures (execLdm c p u sb w rn list s) State.TickInv := by
  refine ensures_ifPassed h ?_
  split
  · exact ensures_refused _
  · exact ensures_loadMultiple h (ne_pcReg_of_blockRefusal_none ‹_›) p u sb w list

theorem ensures_execStm (h : s.TickInv) (c : Cond) (p u sb w : Bool) (rn : Reg) (list : BitVec 16) :
    Ensures (execStm c p u sb w rn list s) State.TickInv := by
  refine ensures_ifPassed h ?_
  split
  · exact ensures_refused _
  · exact ensures_storeMultiple h (ne_pcReg_of_blockRefusal_none ‹_›) p u sb w list

/-! ### Every instruction -/

theorem ensures_exec (h : s.TickInv) (i : Instr) : Ensures (exec i s) State.TickInv := by
  unfold exec
  cases i with
  | and | eor | sub | rsb | add | adc | sbc | rsc | orr | mov | bic | mvn => exact ensures_dataOp h _ _ _ _ _
  | tst | teq | cmp | cmn => exact ensures_compareOp h _ _ _
  | mrsCpsr c rd => exact ensures_psrTransfer h c fun hrd => ensures_next.mpr (h.setReg hrd _)
  | mrsSpsr c rd => exact ensures_execMrsSpsr h c rd
  | msrCpsr c rm => exact ensures_psrTransfer h c fun _ => ensures_msrWhole h _
  | msrCpsrFlgReg c rm => exact ensures_psrTransfer h c fun _ => ensures_msrFlags h _
  | msrCpsrFlgImm => exact ensures_ifPassed h (ensures_msrFlags h _)
  | msrSpsr c rm => exact ensures_psrTransfer h c fun _ => ensures_msrSaved h _
  | msrSpsrFlgReg c rm => exact ensures_psrTransfer h c fun _ => ensures_msrSaved h _
  | msrSpsrFlgImm => exact ensures_ifPassed h (ensures_msrSaved h _)
  | mul c sf => exact ensures_multiplyOp h c sf (fun hrd => by rw [hrd]; rfl) _
  | mla c sf => exact ensures_multiplyOp h c sf (fun hrd => by rw [hrd]; rfl) _
  | swp | swpb => exact ensures_checked h fun hpc => ensures_swapOp h (ne_pcReg_of_swapUsesPc hpc) _ _ _ _
  | ldr => exact ensures_checked h fun hpc => ensures_loadSingle h hpc _ _ _ _
  | ldrb => exact ensures_execLdrb h _ _ _ _ _ _ _
  | str | strb => exact ensures_checked h fun hpc => ensures_storeSingle h hpc _ _ _
  | ldm => exact ensures_execLdm h _ _ _ _ _ _ _
  | stm => exact ensures_execStm h _ _ _ _ _ _ _
  | b => exact ensures_ifPassed h (ensures_writePc_tickInv h _)
  | bl c off24 => exact ensures_execBl h c off24
  | swi => exact ensures_ifPassed h (ensures_next.mpr (tickInv_raiseSoftwareInterrupt h.toUnbankedInv))
  | mrc => exact ensures_cp15Transfer h _ fun hrd => h.setReg hrd _
  | mcr => exact ensures_cp15Transfer h _ fun _ => h.cp15Write _ _ _
  | undefined011x1 | undefinedLdcStc | undefinedCdp | undefinedMrcMcrNotP15 => exact ensures_undefinedOp h _
  | uppTrap => exact ensures_ifPassed h (ensures_next.mpr (tickInv_raiseUnrecognised h.toUnbankedInv))
  | uppBits4And7 => exact ensures_ifPassed h (ensures_refused _)
  | nvAny => exact ensures_next.mpr h

/-! ### The tick -/

theorem ensures_fetch (s : State) :
    Ensures (fetch s) fun m => TransferStep s m.2 ∧ m.2.faultPending = s.faultPending := by
  have hread : Ensures (memRead s.pc .word s) fun m => TransferStep s m.2 ∧ m.2.faultPending = s.faultPending :=
    fun m hm => ⟨ensures_memRead s.pc .word s m hm, (memRead_frame hm).faultPending_eq⟩
  refine hread.andThen fun m hm => ?_
  split <;> exact ensures_next.mpr hm

theorem State.TickInv.advance (h : s.TickInv) (q : Prefetch) : (advance q s).TickInv := by
  obtain ⟨⟨hal, hfsr, htags, hwf⟩, hbank⟩ := h
  refine ⟨⟨?_, hfsr, htags, hwf⟩, hbank⟩
  have hpc : (Machine.advance q s).pc = s.pc + 4#32 := State.pc_setReg_pcReg _ _
  rw [State.PcAligned, wordAligned_iff] at hal ⊢
  rw [hpc, BitVec.toNat_add, BitVec.toNat_ofNat]
  omega

theorem reportFault_faultPending (f : FaultCode) (s : State) : (reportFault f s).faultPending = s.faultPending := by
  unfold reportFault
  split <;> rfl

/-- The end of a tick empties the latch (R160, R167). -/
theorem inv_takePendingAbort (h : s.TickInv) : (takePendingAbort s).Inv := by
  unfold takePendingAbort
  rw [State.inv_iff]
  split
  · rename_i f _
    have hcleared : (s.setFaultPending none).UnbankedInv := h.toUnbankedInv.congr rfl
    exact ⟨tickInv_raiseException (hcleared.reportFault f) .abt _ (by decide),
      by rw [dataAbort, raiseException_faultPending, reportFault_faultPending]; rfl⟩
  · exact ⟨h, ‹_›⟩

theorem ensures_runSlot (h : s.TickInv) (slot : Slot) : Ensures (runSlot execWord slot s) State.TickInv := by
  cases slot with
  | word w => exact ensures_exec h (decodeWord w)
  | fault f => exact ensures_next.mpr (tickInv_raiseException (h.toUnbankedInv.reportFault f) .abt _ (by decide))

theorem ensures_tick (h : s.Inv) : Ensures (tickWith execWord s) State.Inv := by
  obtain ⟨htick, hfault⟩ := State.inv_iff.mp h
  have hfetched : Ensures (fetch s) fun m => m.2.TickInv ∧ m.2.faultPending = none :=
    (ensures_fetch s).imp fun _ ⟨hstep, hsame⟩ => ⟨hstep.tickInv htick, hsame.trans hfault⟩
  have hfill : ∀ q : Slot → Prefetch, Ensures (andThen (fetch s) fun m => .next (advance (q m.1) m.2)) State.Inv :=
    fun q => hfetched.andThen fun m ⟨hm, hnone⟩ => ensures_next.mpr (State.inv_iff.mpr ⟨hm.advance _, hnone⟩)
  unfold tickWith
  split
  · exact ensures_next.mpr h
  · split
    · exact hfill .one
    · exact hfill (.two _)
    · exact hfetched.andThen fun m ⟨hm, _⟩ =>
        (ensures_runSlot (hm.advance _) _).andThen fun _ ht => ensures_next.mpr (inv_takePendingAbort ht)

/-! ### The environment -/

theorem TransferStep.inv (h : TransferStep s t) (hfault : t.faultPending = s.faultPending) (hs : s.Inv) : t.Inv := by
  obtain ⟨htick, hnone⟩ := State.inv_iff.mp hs
  exact State.inv_iff.mpr ⟨h.tickInv htick, hfault.trans hnone⟩

theorem State.Inv.setHalted (h : s.Inv) (b : Bool) : (s.setHalted b).Inv :=
  let ⟨hbank, hpc, hfault, hfsr, htags, hwf⟩ := h
  ⟨hbank, hpc, hfault, hfsr, htags, hwf⟩

theorem State.Inv.setProcessorId (h : s.Inv) (v : Word) : (s.setProcessorId v).Inv :=
  let ⟨hbank, hpc, hfault, hfsr, htags, hwf⟩ := h
  ⟨hbank, hpc, hfault, hfsr, htags, hwf⟩

theorem State.Inv.setSchedule (h : s.Inv) (l : List EnvAction) : (s.setSchedule l).Inv :=
  let ⟨hbank, hpc, hfault, hfsr, htags, hwf⟩ := h
  ⟨hbank, hpc, hfault, hfsr, htags, hwf⟩

theorem inv_raiseException (h : s.Inv) (b : ExcBank) (savedPC : Word) {vectorPC : Word}
    (hv : vectorPC.extractLsb' 0 2 = 0#2) : (raiseException b savedPC vectorPC s).Inv := by
  obtain ⟨htick, hnone⟩ := State.inv_iff.mp h
  exact State.inv_iff.mpr ⟨tickInv_raiseException htick.toUnbankedInv b savedPC hv,
    by rw [raiseException_faultPending, hnone]⟩

/-- Setting mask bits above the mode field keeps the invariant (R330, R331). -/
theorem State.Inv.setMask (h : s.Inv) {mask : Word} (hmask : mask.extractLsb' 0 5 = 0#5) :
    (s.setCpsr (s.cpsr ||| mask)).Inv := by
  obtain ⟨htick, hnone⟩ := State.inv_iff.mp h
  refine State.inv_iff.mpr ⟨htick.setCpsr ?_, hnone⟩
  rw [State.modeBits, State.setCpsr_cpsr, BitVec.extractLsb'_or, hmask, BitVec.or_zero]
  rfl

theorem State.Inv.requestFIQ (h : s.Inv) : (requestFIQ s).Inv := by
  have hrunning := h.setHalted false
  unfold Machine.requestFIQ
  dsimp only
  split
  · exact hrunning
  · exact (inv_raiseException hrunning .fiq _ (by decide)).setMask (by decide)

theorem State.Inv.requestIRQ (h : s.Inv) : (requestIRQ s).Inv := by
  have hrunning := h.setHalted false
  unfold Machine.requestIRQ
  dsimp only
  split
  · exact hrunning
  · exact (inv_raiseException hrunning .irq _ (by decide)).setMask (by decide)

theorem State.Inv.resetProcedure (h : s.Inv) : (resetProcedure s).Inv := by
  obtain ⟨hbank, hpc, _, hfsr, _, hwf⟩ := inv_raiseException h .svc 0#32 (vectorPC := 0#32) (by decide)
  exact ⟨hbank, hpc, rfl, hfsr, tagsDistinct_cacheClear _, hwf⟩

theorem readVirtualDebug_frame (va : Word) (n : Size) (s : State) :
    ReadFrame s (readVirtualDebug va n s).2 ∧ (readVirtualDebug va n s).2.cache = s.cache := by
  have hframe := translate_frame false va s
  have hcache := translate_cache false va s
  unfold readVirtualDebug
  split
  · split <;> rename_i heq <;> rw [heq] at hframe hcache
    · exact ⟨hframe.trans (busRead_frame _ n _), (busRead_cache _ n _).trans hcache⟩
    · exact ⟨hframe, hcache⟩
  · exact ⟨busRead_frame _ n s, busRead_cache _ n s⟩

theorem State.Inv.readVirtualDebug (h : s.Inv) (va : Word) (n : Size) : (readVirtualDebug va n s).2.Inv := by
  obtain ⟨hframe, hcache⟩ := readVirtualDebug_frame va n s
  exact (TransferStep.of_readFrame hframe fun htags => by rwa [hcache]).inv hframe.faultPending_eq h

theorem State.Inv.environmentAct (h : s.Inv) (a : EnvAction) : (environmentAct a s).Inv := by
  cases a with
  | tick => exact h
  | reset => exact h.resetProcedure
  | requestFIQ => exact h.requestFIQ
  | requestIRQ => exact h.requestIRQ
  | setProcessorID v => exact h.setProcessorId v
  | halt => exact h.setHalted true
  | debugRead va n => exact h.readVirtualDebug va n
  | busMaster pa b =>
    obtain ⟨hbank, hpc, hfault, hfsr, htags, hwf⟩ := h
    exact ⟨hbank, hpc, hfault, hfsr, htags, Memory.wf_writeByte hwf pa.isLt b⟩

/-! ### The step -/

theorem ensures_step (h : s.Inv) : Ensures (step s) State.Inv := by
  unfold step stepWith
  split
  · exact ensures_tick h
  · exact ensures_tick (h.setSchedule _)
  · exact ensures_next.mpr ((h.setSchedule _).environmentAct _)

/-- Settles O58: a data transfer keeps the clauses that are free of the bank, an instruction those of `State.TickInv`,
and the end of the tick empties the fault latch. -/
theorem stepKeepsInvariant : Obligations.StepKeepsInvariant := by
  unfold Obligations.StepKeepsInvariant
  intro s t h hstep
  exact ensures_step h t hstep

/-- Settles O57: every line of the cache is disabled, and the other clauses are the values R46 and the log name. -/
theorem invariantAtReset : Obligations.InvariantAtReset := by
  unfold Obligations.InvariantAtReset
  refine ⟨⟨.supervisor, rfl, rfl⟩, ?_, rfl, fun _ => rfl, ?_, rfl⟩
  · rfl
  · intro set i j _ hi
    simp [State.reset, linesOf, Vector.get_eq_getElem, CacheLine.empty] at hi

end Sys2Proof.Machine

/-! PROOFS. The place of an access: alignment, TLB, table walk and permission (20_memory.md R66 to R101). -/

namespace Sys2Proof.Machine

variable {s s1 t : State} {va pa l1 l2 : Word} {n : Size} {e : TlbEntry} {f : FaultCode}

/-! ### The place of an access (R66, R67, R72) -/

theorem alignmentFault_eq_true_iff : alignmentFault va n s = true ↔
    n = .word ∧ va.extractLsb' 0 2 ≠ 0#2 ∧ s.cp15.control.getLsbD 1 = true := by
  simp only [alignmentFault, Bool.and_eq_true, beq_iff_eq, bne_iff_ne, and_assoc]

theorem locate_of_alignmentFault (h : alignmentFault va n s = true) (isWrite : Bool) :
    locate va n isWrite s = .next (.fault ⟨.alignment, 0, va⟩, s) := if_pos h

theorem memRead_of_locate_fault (h : locate va n false s = .next (.fault f, t)) :
    memRead va n s = .next (.fault f, t) := by
  rw [memRead, h, andThen_next]

theorem memWrite_of_locate_fault (h : locate va n true s = .next (.fault f, t)) (v : Word) :
    memWrite va n v s = .next (some f, t) := by
  rw [memWrite, h, andThen_next]

theorem fetch_of_memRead_fault (h : memRead s.pc .word s = .next (.fault f, t)) : fetch s = .next (.fault f, t) := by
  rw [fetch, h, andThen_next]

/-- With the MMU off an access goes to its own address (R72). -/
theorem locate_mmuOff (ha : alignmentFault va n s = false) (hm : s.mmuOn = false) (isWrite : Bool) :
    locate va n isWrite s = .next (.physical (accessAddress va n), s) := by
  simp [locate, ha, hm]

/-- An access goes to an untranslated address only with the MMU off. -/
theorem locate_physical {isWrite : Bool} (h : locate va n isWrite s = .next (.physical pa, t)) :
    s.mmuOn = false ∧ pa = accessAddress va n ∧ t = s := by
  unfold locate at h
  repeat' split at h
  all_goals cases h
  exact ⟨Bool.eq_false_iff.mpr ‹_›, rfl, rfl⟩

/-! ### The faults of an access (R100, R101) -/

theorem walkLevel2_error {l1 : Word} (h : walkLevel2 l1 va s = (.error f, t)) :
    f.type = .lv2TranslationError ∨ f.type = .pageTranslationFault := by
  unfold walkLevel2 at h
  repeat' split at h
  all_goals cases h
  · exact .inl rfl
  · exact .inr rfl

theorem tableWalk_error (h : tableWalk va s = (.error f, t)) : f.type = .lv1TranslationError ∨
    f.type = .sectionTranslationFault ∨ f.type = .lv2TranslationError ∨ f.type = .pageTranslationFault := by
  unfold tableWalk at h
  split at h
  · cases h; exact .inl rfl
  · split at h
    · cases h
    · split at h
      · exact .inr (.inr (walkLevel2_error h))
      · cases h; exact .inr (.inl rfl)

/-- A translation that fails is a walk that fails: a hit has no fault. -/
theorem translate_error {install : Bool} (h : translate install va s = (.error f, t)) :
    tableWalk va s = (.error f, t) := by
  unfold translate at h
  split at h
  · cases h
  · split at h <;> rename_i heq <;> cases h
    exact heq

theorem checkAccess_denied {isWrite : Bool} (h : checkAccess e va isWrite s = .denied f) :
    f.type = .sectionPermissionFault ∨ f.type = .pagePermissionFault ∨ f.type = .sectionDomainFault ∨
      f.type = .pageDomainFault := by
  unfold checkAccess at h
  dsimp only at h
  split at h
  · cases h
  · split at h
    · split at h
      · cases h
      · cases h
        cases e.isSection <;> simp
      · cases h
    · cases h
      cases e.isSection <;> simp

/-- Past the alignment check no place of an access is an alignment fault. -/
theorem locate_fault_ne_alignment {isWrite : Bool} (ha : alignmentFault va n s = false)
    (h : locate va n isWrite s = .next (.fault f, t)) : f.type ≠ .alignment := by
  unfold locate at h
  rw [ha, if_neg Bool.false_ne_true] at h
  split at h
  · split at h
    · rename_i heq
      cases h
      rcases tableWalk_error (translate_error heq) with h | h | h | h <;> simp [h]
    · split at h <;> cases h
      rcases checkAccess_denied ‹_› with h | h | h | h <;> simp [h]
  · cases h

theorem linefetchError_ne_alignment (e : TlbEntry) (va : Word) : (linefetchError e va).type ≠ .alignment := by
  unfold linefetchError
  cases e.isSection <;> simp

theorem otherBusError_ne_alignment (e : TlbEntry) (va : Word) : (otherBusError e va).type ≠ .alignment := by
  unfold otherBusError
  cases e.isSection <;> simp

theorem Reply.ofBus_fault {f' : FaultCode} {p : Option Word × State} (h : Reply.ofBus f p = (.fault f', t)) :
    f' = f ∧ p = (none, t) := by
  rcases p with ⟨_ | v, u⟩ <;> cases h
  exact ⟨rfl, rfl⟩

theorem readMapped_fault (h : readMapped e pa va n s = (.fault f, t)) :
    f = linefetchError e va ∨ f = otherBusError e va := by
  unfold readMapped at h
  dsimp only at h
  split at h
  · split at h
    · cases h
    · split at h
      · exact .inl (Reply.ofBus_fault h).1
      · exact .inr (Reply.ofBus_fault h).1
  · exact .inr (Reply.ofBus_fault h).1

theorem writeThrough_fault {ta v : Word} {f' : FaultCode} (h : writeThrough ta pa n v f s = (some f', t)) :
    f' = f := by
  unfold writeThrough at h
  split at h <;> cases h
  rfl

/-- Past the alignment check no read answers an alignment fault. -/
theorem memRead_fault_ne_alignment (ha : alignmentFault va n s = false) (h : memRead va n s = .next (.fault f, t)) :
    f.type ≠ .alignment := by
  unfold memRead at h
  obtain ⟨⟨p, s0⟩, hp, h⟩ := andThen_eq_next.mp h
  cases p with
  | fault => cases h; exact locate_fault_ne_alignment ha hp
  | physical => rw [(Reply.ofBus_fault (Host.Outcome.next.inj h)).1]; simp [nonMmuError]
  | mapped e =>
    rcases readMapped_fault (Host.Outcome.next.inj h) with rfl | rfl
    · exact linefetchError_ne_alignment e va
    · exact otherBusError_ne_alignment e va

/-- Past the alignment check no write answers an alignment fault. -/
theorem memWrite_fault_ne_alignment {v : Word} (ha : alignmentFault va n s = false)
    (h : memWrite va n v s = .next (some f, t)) : f.type ≠ .alignment := by
  unfold memWrite at h
  obtain ⟨⟨p, s0⟩, hp, h⟩ := andThen_eq_next.mp h
  cases p with
  | fault => cases h; exact locate_fault_ne_alignment ha hp
  | physical => rw [writeThrough_fault (Host.Outcome.next.inj h)]; simp [nonMmuError]
  | mapped e => rw [writeThrough_fault (Host.Outcome.next.inj h)]; exact otherBusError_ne_alignment e va

/-- Settles O23: the check comes first for words, and past it, where every byte access is, no fault is of its type. -/
theorem alignmentCheck : Obligations.AlignmentCheck := by
  unfold Obligations.AlignmentCheck
  refine ⟨fun va v s hon hva => ?word, fun s hon hpc => ?fetch, fun va v s t f => ?byte⟩
  case word =>
    have hlocate := locate_of_alignmentFault (alignmentFault_eq_true_iff.mpr ⟨rfl, hva, hon⟩)
    exact ⟨memRead_of_locate_fault (hlocate false), memWrite_of_locate_fault (hlocate true) v⟩
  case fetch =>
    have hlocate := locate_of_alignmentFault (alignmentFault_eq_true_iff.mpr ⟨rfl, hpc, hon⟩)
    exact fetch_of_memRead_fault (memRead_of_locate_fault (hlocate false))
  case byte =>
    exact ⟨memRead_fault_ne_alignment rfl, memWrite_fault_ne_alignment rfl⟩

/-- Settles O24: the place is the address itself, and a read there is one bus read, which touches neither TLB nor
cache. -/
theorem mmuOffReadsThePhysicalBus : Obligations.MmuOffReadsThePhysicalBus := by
  unfold Obligations.MmuOffReadsThePhysicalBus
  intro va n s hm ha a
  have haddress : a = accessAddress va n := by cases n <;> rfl
  have hlocate := locate_mmuOff (alignmentFault_eq_false_iff.mpr ha) hm
  rw [haddress]
  refine ⟨hlocate, ?_, busRead_tlb _ n s, busRead_tlbNext _ n s, busRead_cache _ n s⟩
  rw [memRead, hlocate, andThen_next]
  dsimp only
  rcases busRead (accessAddress va n) n s with ⟨_ | v, t⟩ <;> rfl

/-! ### The TLB (R81, R89, R90) -/

theorem TlbEntry.hits_iff : e.hits va = true ↔ e.addrMask ≠ 0#32 ∧ e.addr = va &&& e.addrMask := by
  simp only [TlbEntry.hits, Bool.and_eq_true, bne_iff_ne, beq_iff_eq]

/-- An empty slot answers for no address. -/
theorem TlbEntry.hits_empty (va : Word) : TlbEntry.empty.hits va = false := rfl

theorem tlbLookup_eq_none_iff {tlb : Vector TlbEntry 64} :
    tlbLookup tlb va = none ↔ ∀ i, (tlb.get i).hits va = false := by
  rw [tlbLookup, List.find?_eq_none, List.forall_mem_iff_forall_getElem, Fin.forall_iff]
  simp [Vector.get_eq_getElem]

/-- The first entry that hits is the answer. -/
theorem tlbLookup_first {tlb : Vector TlbEntry 64} {i : Fin 64} (hi : (tlb.get i).hits va = true)
    (hfirst : ∀ j < i, (tlb.get j).hits va = false) : tlbLookup tlb va = some (tlb.get i) := by
  rw [tlbLookup, List.find?_eq_some_iff_getElem]
  refine ⟨hi, i.val, by simp, by simp [Vector.get_eq_getElem], fun j hj => ?_⟩
  simpa [Vector.get_eq_getElem] using hfirst ⟨j, by omega⟩ hj

theorem translate_of_hit (h : tlbLookup s.tlb va = some e) (install : Bool) :
    translate install va s = (.ok e, s) := by
  simp [translate, h]

/-- Settles O25: a search in slot order. -/
theorem tlbHitIsTheFirstMatch : Obligations.TlbHitIsTheFirstMatch := by
  unfold Obligations.TlbHitIsTheFirstMatch
  refine ⟨fun install va s i hmask haddr hfirst => ?_, fun va t hmiss => ?_⟩
  · refine translate_of_hit (tlbLookup_first (TlbEntry.hits_iff.mpr ⟨hmask, haddr⟩) fun j hj => ?_) install
    exact Bool.eq_false_iff.mpr fun hit => hfirst j hj (TlbEntry.hits_iff.mp hit)
  · refine tlbLookup_eq_none_iff.mpr fun i => Bool.eq_false_iff.mpr fun hit => ?_
    obtain ⟨hmask, haddr⟩ := TlbEntry.hits_iff.mp hit
    exact (hmiss i).elim hmask fun hne => hne haddr

theorem tlbFlushEntry_get (v : Word) (s : State) (i : Fin 64) : (tlbFlushEntry v s).tlb.get i =
    if (s.tlb.get i).hits v then TlbEntry.empty else s.tlb.get i := by
  simp [tlbFlushEntry, Vector.get_eq_getElem]

theorem tlbFlushAll_get (s : State) (i : Fin 64) : (tlbFlushAll s).tlb.get i = TlbEntry.empty := by
  simp [tlbFlushAll, Vector.get_eq_getElem]

theorem tlbLookup_tlbFlushEntry (v : Word) (s : State) : tlbLookup (tlbFlushEntry v s).tlb v = none := by
  refine tlbLookup_eq_none_iff.mpr fun i => ?_
  rw [tlbFlushEntry_get]
  split
  · exact TlbEntry.hits_empty v
  · exact Bool.eq_false_iff.mpr ‹_›

/-- Settles O28: a flush puts empty entries, which answer for nothing, in the slots it clears. -/
theorem tlbFlushes : Obligations.TlbFlushes := by
  unfold Obligations.TlbFlushes
  intro v va s
  refine ⟨tlbLookup_tlbFlushEntry v s, tlbLookup_eq_none_iff.mpr fun i => ?_, rfl, rfl, fun i => ?_⟩
  · rw [tlbFlushAll_get, TlbEntry.hits_empty]
  · simp only [tlbFlushEntry_get, TlbEntry.hits_iff]
    rfl

/-- A miss is answered by the walk, and installs what the walk found where that is asked for (R89, R92). -/
theorem translate_of_walk_ok (hmiss : tlbLookup s.tlb va = none) (h : tableWalk va s = (.ok e, s1))
    (install : Bool) : translate install va s = (.ok e, if install then tlbInstall e s1 else s1) := by
  simp [translate, hmiss, h]

theorem translate_of_walk_error (hmiss : tlbLookup s.tlb va = none) (h : tableWalk va s = (.error f, s1))
    (install : Bool) : translate install va s = (.error f, s1) := by
  simp [translate, hmiss, h]

/-- Entries installed one after the other (R89). -/
def tlbInstallAll (es : List TlbEntry) (s : State) : State := es.foldl (fun s e => tlbInstall e s) s

theorem tlbInstallAll_concat (es : List TlbEntry) (e : TlbEntry) (s : State) :
    tlbInstallAll (es ++ [e]) s = tlbInstall e (tlbInstallAll es s) := by
  simp [tlbInstallAll]

theorem tlbInstall_get (e : TlbEntry) (s : State) (i : Fin 64) :
    (tlbInstall e s).tlb.get i = if i = s.tlbNext then e else s.tlb.get i := get_set_fin _ _ _ _

theorem tlbInstallAll_tlbNext (es : List TlbEntry) (s : State) :
    (tlbInstallAll es s).tlbNext = s.tlbNext + Fin.ofNat 64 es.length := by
  induction es using List.reverseRecOn with
  | nil => exact (add_zero _).symm
  | append_singleton es e ih =>
    rw [tlbInstallAll_concat, List.length_append]
    show (tlbInstallAll es s).tlbNext + 1 = _
    rw [ih, add_assoc]
    congr 1
    ext
    simp [Fin.val_add]

/-- Up to 64 installations leave each entry in its slot, counted from the first slot taken. -/
theorem tlbInstallAll_get {es : List TlbEntry} (hlen : es.length ≤ 64) (s : State) {k : Nat} (hk : k < es.length) :
    (tlbInstallAll es s).tlb.get (s.tlbNext + Fin.ofNat 64 k) = es[k] := by
  induction es using List.reverseRecOn with
  | nil => exact absurd hk (Nat.not_lt_zero k)
  | append_singleton es e ih =>
    simp only [List.length_append, List.length_singleton] at hlen hk
    simp only [tlbInstallAll_concat, tlbInstall_get, tlbInstallAll_tlbNext, add_right_inj]
    by_cases hlast : k = es.length
    · subst hlast
      simp
    · have hslot : Fin.ofNat 64 k ≠ Fin.ofNat 64 es.length := by
        simp only [ne_eq, Fin.ext_iff, Fin.ofNat]
        omega
      rw [if_neg hslot, ih (by omega) (by omega), List.getElem_append_left]

/-- Of 65 entries installed all but the first stay, and fill the TLB. -/
theorem tlbInstallAll_sixtyFive (es : Vector TlbEntry 65) (s : State) (k : Fin 64) :
    (tlbInstallAll es.toList s).tlb.get (s.tlbNext + 1 + k) = es.get k.succ := by
  have hsize := es.length_toList
  obtain ⟨first, rest, hes⟩ := List.exists_cons_of_length_eq_add_one hsize
  have hlen : rest.length = 64 := by simpa [hes] using hsize
  have hget : es.get k.succ = rest[k.val] := by
    calc es.get k.succ
      _ = es.toList[k.val + 1] := (Vector.getElem_toList (by omega)).symm
      _ = rest[k.val] := by simp only [hes, List.getElem_cons_succ]
  have hinstalled := tlbInstallAll_get hlen.le (tlbInstall first s) (k := k) (by omega)
  rw [Fin.ofNat_val_eq_self, ← hget] at hinstalled
  rw [hes]
  exact hinstalled

/-- Settles O27: the walk leaves TLB and counter to the installation, and of 65 installations the last 64 fill every
slot, in the order that begins behind the first. -/
theorem roundRobinInstallation : Obligations.RoundRobinInstallation := by
  unfold Obligations.RoundRobinInstallation
  refine ⟨fun va s s1 e hmiss hwalk => ?resolved, fun install va s s1 f hfault => ?fault, fun es s => ?sixtyFive⟩
  case resolved =>
    obtain ⟨htlb, hnext, -⟩ := tableWalk_tlb va s
    simp only [hwalk] at htlb hnext
    refine ⟨?_, translate_of_walk_ok hmiss hwalk false, htlb, hnext⟩
    simp only [translate_of_walk_ok hmiss hwalk true, tlbInstall, htlb, hnext, if_true]
  case fault =>
    obtain ⟨htlb, hnext, -⟩ := tableWalk_tlb va s
    rw [translate_error hfault] at htlb hnext
    exact ⟨htlb, hnext⟩
  case sixtyFive =>
    refine ⟨?_, ?_, fun k hk => ?_⟩
    · exact (tlbInstallAll_tlbNext es.toList s).trans (by rw [Vector.length_toList]; rfl)
    · have hlast := tlbInstallAll_sixtyFive es s 63
      rwa [add_assoc, show (1 + 63 : Fin 64) = 0 from rfl, add_zero] at hlast
    · obtain ⟨j, rfl⟩ := Fin.exists_succ_eq.mpr hk
      have hslot := tlbInstallAll_sixtyFive es s j.castSucc
      rwa [add_assoc, add_comm 1, Fin.coeSucc_eq_succ, Fin.succ_castSucc] at hslot

/-! ### The table walk (R82 to R88, R101) -/

section
variable (hbus : busRead (level1Address s.cp15.ttb va) .word s = (some l1, s1))
include hbus

theorem tableWalk_section (h : l1.extractLsb' 0 2 = 0b10#2) :
    tableWalk va s = (.ok (newEntry 0xFFF00000#32 va l1 0#32), s1) := by
  simp [tableWalk, hbus, h]

theorem tableWalk_page (h : l1.extractLsb' 0 2 = 0b01#2) : tableWalk va s = walkLevel2 l1 va s1 := by
  simp [tableWalk, hbus, h]

theorem tableWalk_invalid (h : l1.extractLsb' 0 2 = 0b00#2 ∨ l1.extractLsb' 0 2 = 0b11#2) :
    tableWalk va s = (.error ⟨.sectionTranslationFault, 0, va⟩, s1) := by
  rcases h with h | h <;> simp [tableWalk, hbus, h]

end

theorem tableWalk_busError (hbus : busRead (level1Address s.cp15.ttb va) .word s = (none, s1)) :
    tableWalk va s = (.error ⟨.lv1TranslationError, 0, va⟩, s1) := by
  simp [tableWalk, hbus]

section
variable (hbus : busRead (level2Address l1 va) .word s = (some l2, s1))
include hbus

theorem walkLevel2_large (h : l2.extractLsb' 0 2 = 0b01#2) :
    walkLevel2 l1 va s = (.ok (newEntry 0xFFFF0000#32 va l1 l2), s1) := by
  simp [walkLevel2, hbus, h]

theorem walkLevel2_small (h : l2.extractLsb' 0 2 = 0b10#2) :
    walkLevel2 l1 va s = (.ok (newEntry 0xFFFFF000#32 va l1 l2), s1) := by
  simp [walkLevel2, hbus, h]

theorem walkLevel2_invalid (h : l2.extractLsb' 0 2 = 0b00#2 ∨ l2.extractLsb' 0 2 = 0b11#2) :
    walkLevel2 l1 va s = (.error ⟨.pageTranslationFault, l1.extractLsb' 5 4, va⟩, s1) := by
  rcases h with h | h <;> simp [walkLevel2, hbus, h]

end

theorem walkLevel2_busError (hbus : busRead (level2Address l1 va) .word s = (none, s1)) :
    walkLevel2 l1 va s = (.error ⟨.lv2TranslationError, l1.extractLsb' 5 4, va⟩, s1) := by
  simp [walkLevel2, hbus]

/-- Settles O26: a miss is answered by the walk, and the walk by the bits 1:0 of its descriptors. -/
theorem tableWalkOnMiss : Obligations.TableWalk := by
  unfold Obligations.TableWalk
  intro va s s1 r1 hmiss hbus1
  refine ⟨?unreadable, ?level1⟩
  case unreadable =>
    rintro rfl
    exact translate_of_walk_error hmiss (tableWalk_busError hbus1) true
  case level1 =>
    rintro l1 rfl
    refine ⟨fun h => translate_of_walk_error hmiss (tableWalk_invalid hbus1 h) true,
      fun h => translate_of_walk_ok hmiss (tableWalk_section hbus1 h) true, fun h r2 s2 hbus2 => ?_⟩
    have hwalk := tableWalk_page hbus1 h
    refine ⟨?level2Unreadable, ?level2⟩
    case level2Unreadable =>
      rintro rfl
      exact translate_of_walk_error hmiss (hwalk.trans (walkLevel2_busError hbus2)) true
    case level2 =>
      rintro l2 rfl
      exact ⟨fun h => translate_of_walk_error hmiss (hwalk.trans (walkLevel2_invalid hbus2 h)) true,
        fun h => translate_of_walk_ok hmiss (hwalk.trans (walkLevel2_large hbus2 h)) true,
        fun h => translate_of_walk_ok hmiss (hwalk.trans (walkLevel2_small hbus2 h)) true⟩

/-! ### The physical address and the permission (R91, R94 to R97) -/

theorem TlbEntry.isSection_iff : e.isSection = true ↔ e.level1Descriptor.extractLsb' 0 2 = 0b10#2 := by
  simp only [TlbEntry.isSection, beq_iff_eq]

theorem TlbEntry.isLarge_iff : e.isLarge = true ↔ e.level2Descriptor.extractLsb' 0 2 = 0b01#2 := by
  simp only [TlbEntry.isLarge, beq_iff_eq]

/-- Masks that split a word at bit `k` and an OR put the high part of one word above the low part of another. -/
theorem maskedOr_eq_append {h k : Nat} (hk : h + k = 32) (base va : Word) :
    (base &&& (BitVec.allOnes 32 <<< k)) ||| (va &&& (BitVec.allOnes 32 >>> h)) =
      (base.extractLsb' k h ++ va.extractLsb' 0 k).cast hk := by
  ext i hi
  by_cases hlow : i < k
  · simp [-BitVec.reduceAllOnes, BitVec.getElem_append, hlow, hi, show h + i < 32 by omega]
  · simp [-BitVec.reduceAllOnes, BitVec.getElem_append, hlow, hi, show ¬ h + i < 32 by omega,
      show k + (i - k) = i by omega]

theorem physAddr_section (h : e.isSection = true) (va : Word) :
    e.physAddr va = e.level1Descriptor.extractLsb' 20 12 ++ va.extractLsb' 0 20 := by
  rw [TlbEntry.physAddr, if_pos h]
  exact maskedOr_eq_append (h := 12) (k := 20) rfl _ _

theorem physAddr_large (hpage : ¬ e.isSection = true) (h : e.isLarge = true) (va : Word) :
    e.physAddr va = e.level2Descriptor.extractLsb' 16 16 ++ va.extractLsb' 0 16 := by
  rw [TlbEntry.physAddr, if_neg hpage, if_pos h]
  exact maskedOr_eq_append (h := 16) (k := 16) rfl _ _

theorem physAddr_small (hpage : ¬ e.isSection = true) (h : ¬ e.isLarge = true) (va : Word) :
    e.physAddr va = e.level2Descriptor.extractLsb' 12 20 ++ va.extractLsb' 0 12 := by
  rw [TlbEntry.physAddr, if_neg hpage, if_neg h]
  exact maskedOr_eq_append (h := 20) (k := 12) rfl _ _

/-- Settles O29: the mask of each kind splits the word at the kind's granularity. -/
theorem physicalAddressOfEntry : Obligations.PhysicalAddressOfEntry := by
  unfold Obligations.PhysicalAddressOfEntry
  intro e va
  rw [ne_eq, ne_eq, ← TlbEntry.isSection_iff, ← TlbEntry.isLarge_iff]
  exact ⟨fun h => physAddr_section h va, fun hpage h => physAddr_large hpage h va,
    fun hpage h => physAddr_small hpage h va⟩

/-- The low four bits of an address lie below every granularity. -/
theorem physAddr_low (e : TlbEntry) (va : Word) : (e.physAddr va).extractLsb' 0 4 = va.extractLsb' 0 4 := by
  have hlow {h k : Nat} (hk : 4 ≤ k) (x : BitVec h) :
      (x ++ va.extractLsb' 0 k).extractLsb' 0 4 = va.extractLsb' 0 4 := by
    ext i hi
    simp [BitVec.getLsbD_append, show i < k by omega]
  by_cases hsection : e.isSection = true
  · rw [physAddr_section hsection]
    exact hlow (by decide) _
  · by_cases hlarge : e.isLarge = true
    · rw [physAddr_large hsection hlarge]
      exact hlow (by decide) _
    · rw [physAddr_small hsection hlarge]
      exact hlow (by decide) _

theorem TlbEntry.ap_eq (e : TlbEntry) (va : Word) : e.ap va =
    if e.level1Descriptor.extractLsb' 0 2 = 0b10#2 then e.level1Descriptor.extractLsb' 10 2
    else e.level2Descriptor.extractLsb' (4 + 2 * (if e.level2Descriptor.extractLsb' 0 2 = 0b01#2 then
      va.extractLsb' 14 2 else va.extractLsb' 10 2).toNat) 2 := by
  simp only [TlbEntry.ap, TlbEntry.isSection_iff, TlbEntry.isLarge_iff]

theorem checkAccess_manager (h : domainPolicy s.cp15.dac e.domain = 0b11#2) (va : Word) (isWrite : Bool) :
    checkAccess e va isWrite s = .permitted := by
  simp [checkAccess, h]

theorem checkAccess_noAccess (h : domainPolicy s.cp15.dac e.domain = 0b00#2 ∨
    domainPolicy s.cp15.dac e.domain = 0b10#2) (va : Word) (isWrite : Bool) : checkAccess e va isWrite s =
      .denied ⟨if e.isSection then .sectionDomainFault else .pageDomainFault, e.domain, va⟩ := by
  rcases h with h | h <;> simp [checkAccess, h]

section
variable (h : domainPolicy s.cp15.dac e.domain = 0b01#2) {isWrite : Bool}
include h

theorem checkAccess_client_yes (hap : apTable (e.ap va) (s.cp15.control.getLsbD 8) (s.cp15.control.getLsbD 9) s.priv
    isWrite = .yes) : checkAccess e va isWrite s = .permitted := by
  simp only [checkAccess, h, hap]
  rfl

theorem checkAccess_client_no (hap : apTable (e.ap va) (s.cp15.control.getLsbD 8) (s.cp15.control.getLsbD 9) s.priv
    isWrite = .no) : checkAccess e va isWrite s =
      .denied ⟨if e.isSection then .sectionPermissionFault else .pagePermissionFault, e.domain, va⟩ := by
  simp only [checkAccess, h, hap]
  rfl

theorem checkAccess_client_unpredictable (hap : apTable (e.ap va) (s.cp15.control.getLsbD 8)
    (s.cp15.control.getLsbD 9) s.priv isWrite = .unpredictable) : checkAccess e va isWrite s = .unpredictable := by
  simp only [checkAccess, h, hap]
  rfl

end

/-- The AP table of R97 as one condition, outside the case it leaves open. -/
theorem apTable_eq (ap : BitVec 2) (sysBit romBit priv isWrite : Bool)
    (h : ¬ (sysBit = true ∧ romBit = true ∧ ap = 0b00#2)) : apTable ap sysBit romBit priv isWrite =
      if ap = 0b11#2 ∨ (ap = 0b10#2 ∧ (priv ∨ !isWrite)) ∨ (ap = 0b01#2 ∧ priv) ∨
        (ap = 0b00#2 ∧ !isWrite ∧ (romBit ∨ sysBit ∧ priv)) then .yes else .no := by
  revert ap sysBit romBit priv isWrite
  decide

/-- Settles O30: by the domain's policy, and for a Client by the AP table. -/
theorem accessPermission : Obligations.AccessPermission := by
  unfold Obligations.AccessPermission
  intro e va isWrite s d policy section_ sysBit romBit
  have hsection : e.isSection = true ↔ section_ := TlbEntry.isSection_iff
  refine ⟨?manager, ?noAccess, ?client, ?leftOpen, e.ap_eq va⟩
  case manager => exact fun h => checkAccess_manager h va isWrite
  case noAccess =>
    intro h
    simp only [checkAccess_noAccess h va isWrite, hsection]
    rfl
  case client =>
    intro h hdefined
    have htable := apTable_eq (e.ap va) sysBit romBit s.priv isWrite hdefined
    split <;> rename_i hallowed
    · exact checkAccess_client_yes h (htable.trans (if_pos hallowed))
    · rw [checkAccess_client_no h (htable.trans (if_neg hallowed))]
      simp only [hsection]
      rfl
  case leftOpen =>
    intro h hboth hap
    obtain ⟨hsys, hrom⟩ := Bool.and_eq_true_iff.mp hboth
    refine checkAccess_client_unpredictable h ?_
    rw [hap, show s.cp15.control.getLsbD 8 = true from hsys, show s.cp15.control.getLsbD 9 = true from hrom]
    rfl

end Sys2Proof.Machine

/-! PROOFS. The cache: refill, hit, clear and update on a write (20_memory.md R99, R110 to R120). -/

namespace Sys2Proof.Machine

variable {s t : State} {va pa : Word} {n : Size} {e : TlbEntry} {f : FaultCode}

/-! ### Bus reads (R60, R61, R63) -/

/-- Every bus read is recorded, and the platform's map stays. -/
theorem busRead_logged {r : Option Word} (h : busRead pa n s = (r, t)) :
    t.bus = s.bus ∧ t.busTrace = .read pa n :: s.busTrace := by
  unfold busRead at h
  cases hkind : busKindAt s.bus pa <;> rw [hkind] at h <;> cases h <;> exact ⟨rfl, rfl⟩

/-- Only a bus error gives no value. -/
theorem busRead_none (h : busRead pa n s = (none, t)) : busKindAt s.bus pa = .error := by
  unfold busRead at h
  cases hkind : busKindAt s.bus pa with
  | error => rfl
  | ram | rom | device | standby => rw [hkind] at h; cases h

/-! ### Refill of a line (R113) -/

/-- The calls for the first `k` words of a refill, the newest first. -/
def refillCalls (base : Word) (k : Nat) : List BusCall :=
  (List.range k).reverse.map fun j => .read (base + BitVec.ofNat 32 (4 * j)) .word

/-- What the calls for the first `k` words of a refill leave of the platform's map and of the record. -/
structure RefillReached (base : Word) (s : State) (k : Nat) (t : State) : Prop where
  bus_eq : t.bus = s.bus
  busTrace_eq : t.busTrace = refillCalls base k ++ s.busTrace

section
variable {base : Word} {k : Nat} {u : State}

theorem RefillReached.next (h : RefillReached base s k u) {r : Option Word}
    (hread : busRead (base + BitVec.ofNat 32 (4 * k)) .word u = (r, t)) : RefillReached base s (k + 1) t := by
  obtain ⟨hbus, htrace⟩ := busRead_logged hread
  refine ⟨hbus.trans h.bus_eq, htrace.trans ?_⟩
  simp [refillCalls, List.range_succ, h.busTrace_eq]

theorem RefillReached.busError (h : RefillReached base s k u) (hk : k < 4)
    (hread : busRead (base + BitVec.ofNat 32 (4 * k)) .word u = (none, t)) : ∃ k, k < 4 ∧
      busKindAt s.bus (base + BitVec.ofNat 32 (4 * k)) = .error ∧
      t.busTrace = refillCalls base (k + 1) ++ s.busTrace :=
  ⟨k, hk, by rw [← h.bus_eq]; exact busRead_none hread, (h.next hread).busTrace_eq⟩

/-- A refill that fails met a bus error at one of its four words, and made no call behind it. -/
theorem refillReads_none (h : refillReads base s = (none, t)) : ∃ k, k < 4 ∧
    busKindAt s.bus (base + BitVec.ofNat 32 (4 * k)) = .error ∧
    t.busTrace = refillCalls base (k + 1) ++ s.busTrace := by
  have hbase : base + BitVec.ofNat 32 (4 * 0) = base := BitVec.add_zero base
  have hstart : RefillReached base s 0 s := ⟨rfl, rfl⟩
  unfold refillReads at h
  split at h <;> rename_i hread0 <;> rw [← hbase] at hread0
  · cases h; exact hstart.busError (by decide) hread0
  · split at h <;> rename_i hread1
    · cases h; exact (hstart.next hread0).busError (by decide) hread1
    · split at h <;> rename_i hread2
      · cases h; exact ((hstart.next hread0).next hread1).busError (by decide) hread2
      · split at h <;> rename_i hread3
        · cases h; exact (((hstart.next hread0).next hread1).next hread2).busError (by decide) hread3
        · cases h

end

/-- In plain RAM a refill reads the four words and records the four calls. -/
theorem refillReads_plainRam (h : s.PlainRam) (base : Word) : refillReads base s =
    (some (s.mem.readWord base.toNat, s.mem.readWord (base + 4#32).toNat, s.mem.readWord (base + 8#32).toNat,
      s.mem.readWord (base + 12#32).toNat), s.setBusTrace (refillCalls base 4 ++ s.busTrace)) := by
  have hread (pa : Word) (calls : List BusCall) : busRead pa .word (s.setBusTrace calls) =
      (some (s.mem.readWord pa.toNat), s.setBusTrace (.read pa .word :: calls)) :=
    busRead_ram (s := s.setBusTrace calls) (h pa) .word
  have hfirst : busRead base .word s =
      (some (s.mem.readWord base.toNat), s.setBusTrace (.read base .word :: s.busTrace)) := hread base s.busTrace
  simp only [refillReads, hfirst, hread]
  simp [refillCalls, List.range_succ]

/-! ### The bytes of a line (R64, R112, R113, R116) -/

/-- The bytes above the lowest one. -/
theorem byte_above_append {k : Nat} (x : BitVec k) (y : Byte) (i : Nat) :
    (x ++ y).extractLsb' (i + 8) 8 = x.extractLsb' i 8 := by
  rw [BitVec.extractLsb'_append_eq_of_le (Nat.le_add_left 8 i), Nat.add_sub_cancel]

theorem byte_readWord (m : Memory) (a : Nat) :
    (m.readWord a).extractLsb' 0 8 = m.readByte a ∧ (m.readWord a).extractLsb' 8 8 = m.readByte (a + 1) ∧
      (m.readWord a).extractLsb' 16 8 = m.readByte (a + 2) ∧ (m.readWord a).extractLsb' 24 8 = m.readByte (a + 3) := by
  refine ⟨low_of_append _ _, ?_, ?_, ?_⟩
  · exact (byte_above_append _ _ 0).trans (low_of_append _ _)
  · exact (byte_above_append _ _ 8).trans ((byte_above_append _ _ 0).trans (low_of_append _ _))
  · exact (byte_above_append _ _ 16).trans ((byte_above_append _ _ 8).trans (high_of_append _ _))

/-- The line of four words of memory holds the sixteen bytes from the first on. -/
theorem byteAt_lineOfWords (tag : BitVec 26) (m : Memory) (base : Nat) (i : BitVec 4) :
    (lineOfWords tag (m.readWord base) (m.readWord (base + 4)) (m.readWord (base + 8))
      (m.readWord (base + 12))).byteAt i = m.readByte (base + i.toNat) := by
  obtain ⟨i⟩ := i
  fin_cases i <;> simp [CacheLine.byteAt, lineOfWords, byte_readWord, Vector.get_eq_getElem]

theorem CacheLine.byteAt_putByte (l : CacheLine) (i j : BitVec 4) (b : Byte) :
    (l.putByte i b).byteAt j = if j = i then b else l.byteAt j :=
  (get_set_fin _ _ _ _).trans (if_congr BitVec.toFin_inj rfl rfl)

/-- A line read after it is written gives the value written. -/
theorem CacheLine.read_write (l : CacheLine) (a v : Word) (n : Size) : (l.write a v n).read a n = truncateTo n v := by
  cases n with
  | byte => simp only [CacheLine.read, CacheLine.write, byteAt_putByte, if_true, truncateTo]
  | word =>
    have hbyte (q x y : BitVec 2) : (q ++ x : BitVec 4) = (q ++ y : BitVec 4) ↔ x = y := BitVec.append_right_inj q
    have hbytes := word_of_its_bytes v
    simpa [CacheLine.read, CacheLine.write, byteAt_putByte, hbyte, truncateTo] using hbytes

/-! ### A read from a line just filled (R112, R113) -/

theorem lineBase_toNat (pa : Word) : (pa &&& 0xFFFFFFF0#32).toNat = pa.toNat / 16 * 16 := by
  have hpa := pa.isLt
  have happend : pa &&& 0xFFFFFFF0#32 = pa.extractLsb' 4 28 ++ 0#4 := by
    have h := maskedOr_eq_append (h := 28) (k := 4) rfl pa 0#32
    simpa using h
  rw [happend]
  refine (BitVec.toNat_append _ _).trans ?_
  rw [BitVec.extractLsb'_toNat, BitVec.toNat_ofNat, Nat.zero_mod, Nat.or_zero, Nat.shiftLeft_eq,
    Nat.shiftRight_eq_div_pow]
  omega

theorem lineBase_add (pa : Word) {k : Nat} (hk : k < 16) :
    ((pa &&& 0xFFFFFFF0#32) + BitVec.ofNat 32 k).toNat = (pa &&& 0xFFFFFFF0#32).toNat + k := by
  have h := pa.isLt
  rw [BitVec.toNat_add, lineBase_toNat, BitVec.toNat_ofNat]
  omega

/-- The line filled from memory, read at an address with the low bits of the physical one, gives what memory holds. -/
theorem read_lineOfWords (tag : BitVec 26) (m : Memory) {a pa : Word} (hlow : a.extractLsb' 0 4 = pa.extractLsb' 0 4)
    {n : Size} (hal : n = .word → pa.extractLsb' 0 2 = 0#2) (b : Nat) (hb : b = pa.toNat / 16 * 16) :
    (lineOfWords tag (m.readWord b) (m.readWord (b + 4)) (m.readWord (b + 8)) (m.readWord (b + 12))).read a n =
      m.readSize pa.toNat n := by
  have hmod : (a.extractLsb' 0 4).toNat = pa.toNat % 16 := by
    rw [hlow, BitVec.extractLsb'_toNat, Nat.shiftRight_zero]
  cases n with
  | byte =>
    rw [CacheLine.read, byteAt_lineOfWords, hmod, Memory.readSize]
    congr 2
    omega
  | word =>
    have hal := wordAligned_iff.mp (hal rfl)
    have hbyte (k : BitVec 2) : b + (a.extractLsb' 2 2 ++ k : BitVec 4).toNat = pa.toNat + k.toNat := by
      have hquad : (a.extractLsb' 2 2 ++ k : BitVec 4).toNat = a.toNat / 4 % 4 * 4 + k.toNat := by
        refine (BitVec.toNat_append _ _).trans ?_
        rw [← Nat.shiftLeft_add_eq_or_of_lt k.isLt, Nat.shiftLeft_eq, BitVec.extractLsb'_toNat,
          Nat.shiftRight_eq_div_pow]
      rw [BitVec.extractLsb'_toNat, Nat.shiftRight_zero] at hmod
      omega
    simp only [CacheLine.read, byteAt_lineOfWords, hbyte]
    rfl

/-! ### Refill and read (R113) -/

/-- A word address is aligned, so a physical address with its low bits is. -/
theorem aligned_of_low (hlow : (accessAddress va n).extractLsb' 0 4 = pa.extractLsb' 0 4) (hn : n = .word) :
    pa.extractLsb' 0 2 = 0#2 := by
  subst hn
  have h := wordAligned_iff.mp (accessAddress_word_aligned va)
  rw [BitVec.toNat_eq, BitVec.extractLsb'_toNat, BitVec.extractLsb'_toNat] at hlow
  rw [wordAligned_iff]
  simp only [Nat.shiftRight_zero] at hlow
  omega

/-- Both values of `CACHE_TAG_ADDRESS` give an address with the low bits of the physical one. -/
theorem tagAddress_low {a : Word} (q : Config.Params) (hlow : a.extractLsb' 0 4 = pa.extractLsb' 0 4) :
    (tagAddress q a pa).extractLsb' 0 4 = pa.extractLsb' 0 4 := by
  unfold tagAddress
  split
  · exact hlow
  · rfl

/-- The line a refill from plain RAM commits. -/
def ramLine (ta pa : Word) (m : Memory) : CacheLine :=
  let word := fun k : Nat => m.readWord ((pa &&& 0xFFFFFFF0#32) + BitVec.ofNat 32 (4 * k)).toNat
  lineOfWords (tagOf ta) (word 0) (word 1) (word 2) (word 3)

theorem ramLine_read (m : Memory) {ta : Word} (hlow : ta.extractLsb' 0 4 = pa.extractLsb' 0 4)
    (hal : n = .word → pa.extractLsb' 0 2 = 0#2) : (ramLine ta pa m).read ta n = m.readSize pa.toNat n := by
  have hline := read_lineOfWords (tagOf ta) m hlow hal _ (lineBase_toNat pa)
  rw [← hline, ramLine]
  simp only [lineBase_add pa (k := 4 * 0) (by decide), lineBase_add pa (k := 4 * 1) (by decide),
    lineBase_add pa (k := 4 * 2) (by decide), lineBase_add pa (k := 4 * 3) (by decide)]
  rfl

/-- In plain RAM a refill commits the line to the slot drawn and answers from it. -/
theorem cacheRefillAndRead_plainRam (h : s.PlainRam) (ta pa : Word) (n : Size) : cacheRefillAndRead ta pa n s =
    (some ((ramLine ta pa s.mem).read ta n),
      ((s.setBusTrace (refillCalls (pa &&& 0xFFFFFFF0#32) 4 ++ s.busTrace)).setDraws (s.draws + 1)).setCache
        (putLine s.cache (setOf ta) (Config.randomSlot s.draws) (ramLine ta pa s.mem))) := by
  have h0 : (pa &&& 0xFFFFFFF0#32) + BitVec.ofNat 32 (4 * 0) = pa &&& 0xFFFFFFF0#32 := BitVec.add_zero _
  simp only [cacheRefillAndRead, refillReads_plainRam h, ramLine, h0]
  rfl

/-- A refill that fails commits nothing. -/
theorem cacheRefillAndRead_none {ta : Word} (h : cacheRefillAndRead ta pa n s = (none, t)) :
    refillReads (pa &&& 0xFFFFFFF0#32) s = (none, t) := by
  unfold cacheRefillAndRead at h
  split at h <;> rename_i hreads
  · cases h
    exact hreads
  · cases h

section
variable (hon : s.cacheOn = true)
include hon

theorem readMapped_hit {line : CacheLine}
    (h : cacheLookup s.cache (tagAddress s.params (accessAddress va n) pa) = some line) (e : TlbEntry) :
    readMapped e pa va n s = (.value (line.read (tagAddress s.params (accessAddress va n) pa) n), s) := by
  simp only [readMapped, hon, h, if_true]

theorem readMapped_miss (he : e.cacheable = true)
    (h : cacheLookup s.cache (tagAddress s.params (accessAddress va n) pa) = none) :
    readMapped e pa va n s = Reply.ofBus (linefetchError e va)
      (cacheRefillAndRead (tagAddress s.params (accessAddress va n) pa) pa n s) := by
  simp only [readMapped, hon, h, he, if_true]

end

theorem setOf_val (a : Word) : (setOf a).val = a.toNat / 16 % 4 := by
  rw [setOf, BitVec.val_toFin, BitVec.extractLsb'_toNat, Nat.shiftRight_eq_div_pow]

theorem tagOf_toNat (a : Word) : (tagOf a).toNat = a.toNat / 64 := by
  have h := a.isLt
  rw [tagOf, BitVec.extractLsb'_toNat, Nat.shiftRight_eq_div_pow]
  omega

/-- Settles O31: in plain RAM the four words are those of the line, and a refill that fails has met a bus error at one
of its words. -/
theorem cacheRefill : Obligations.CacheRefill := by
  unfold Obligations.CacheRefill
  refine ⟨fun e => ?cacheable, fun a => ⟨setOf_val a, tagOf_toNat a⟩, fun q a pa hq => ?tagAddress, ?miss⟩
  case cacheable => simp only [TlbEntry.cacheable, TlbEntry.isSection_iff]
  case tagAddress => simp only [tagAddress, hq]
  case miss =>
    intro e pa va n s hon he a ta word hmiss
    have hread := readMapped_miss hon he hmiss
    refine ⟨fun hram hlow => ?ram, fun f t hfault => ?fault⟩
    case ram =>
      have hvalue := ramLine_read s.mem (n := n) (tagAddress_low s.params hlow) (aligned_of_low hlow)
      rw [hread, cacheRefillAndRead_plainRam hram, hvalue]
      exact ⟨_, rfl, rfl, _, rfl⟩
    case fault =>
      rw [hread] at hfault
      obtain ⟨rfl, hnone⟩ := Reply.ofBus_fault hfault
      have hreads := cacheRefillAndRead_none hnone
      have hcache := refillReads_cache (pa &&& 0xFFFFFFF0#32) s
      rw [hreads] at hcache
      exact ⟨hcache, rfl, refillReads_none hreads⟩

/-! ### A read again (R112, R118) -/

/-- A refill leaves every part of the state that a bus read leaves. -/
theorem refillReads_keeps {α : Type} {field : State → α} (h : ∀ pa s, field (busRead pa .word s).2 = field s)
    (base : Word) (s : State) : field (refillReads base s).2 = field s := by
  unfold refillReads
  have h0 := h base s
  split <;> rename_i hread <;> rw [hread] at h0
  · exact h0
  · rename_i _ s1
    have h1 := h (base + 4#32) s1
    split <;> rename_i hread <;> rw [hread] at h1
    · exact h1.trans h0
    · rename_i _ s2
      have h2 := h (base + 8#32) s2
      split <;> rename_i hread <;> rw [hread] at h2
      · exact h2.trans (h1.trans h0)
      · rename_i _ s3
        have h3 := h (base + 12#32) s3
        split <;> rename_i hread <;> rw [hread] at h3
        · exact h3.trans (h2.trans (h1.trans h0))
        · exact h3.trans (h2.trans (h1.trans h0))

/-- A refill that succeeds commits the line it answers from, and leaves the TLB. -/
theorem cacheRefillAndRead_some {ta v : Word} (h : cacheRefillAndRead ta pa n s = (some v, t)) : t.tlb = s.tlb ∧
    ∃ slot line, line.hits (tagOf ta) = true ∧ v = line.read ta n ∧
      t.cache = putLine s.cache (setOf ta) slot line := by
  have hcache := refillReads_cache (pa &&& 0xFFFFFFF0#32) s
  have htlb := refillReads_keeps (fun pa s => busRead_tlb pa .word s) (pa &&& 0xFFFFFFF0#32) s
  unfold cacheRefillAndRead at h
  split at h <;> rename_i hreads <;> rw [hreads] at hcache htlb
  · cases h
  · cases h
    exact ⟨htlb, _, _, by simp [CacheLine.hits, lineOfWords], rfl, by rw [← hcache]; rfl⟩

/-- A read in a cacheable region leaves the cache in a state that answers it again, and the TLB as it was. -/
theorem readMapped_again {v : Word} (hon : s.cacheOn = true) (he : e.cacheable = true)
    (h : readMapped e pa va n s = (.value v, t)) : t.tlb = s.tlb ∧ readMapped e pa va n t = (.value v, t) := by
  have hframe := readMapped_frame e pa va n s
  cases hlookup : cacheLookup s.cache (tagAddress s.params (accessAddress va n) pa) with
  | some line =>
    rw [readMapped_hit hon hlookup] at h
    cases h
    exact ⟨rfl, readMapped_hit hon hlookup e⟩
  | none =>
    rw [h] at hframe
    rw [readMapped_miss hon he hlookup] at h
    rcases hrefill : cacheRefillAndRead (tagAddress s.params (accessAddress va n) pa) pa n s with ⟨_ | v', t'⟩ <;>
      rw [hrefill] at h <;> cases h
    obtain ⟨htlb, slot, line, hhits, rfl, hcache⟩ := cacheRefillAndRead_some hrefill
    have hlookup' : cacheLookup t.cache (tagAddress t.params (accessAddress va n) pa) = some line := by
      rw [hcache, hframe.params_eq]
      exact cacheLookup_putLine hlookup hhits slot
    have hon' : t.cacheOn = true := by rwa [State.cacheOn, hframe.cp15_eq]
    rw [readMapped_hit hon' hlookup', hframe.params_eq]
    exact ⟨htlb, rfl⟩

theorem memRead_of_locate_mapped {s0 : State} (h : locate va n false s = .next (.mapped e pa, s0)) :
    memRead va n s = .next (readMapped e pa va n s0) := by
  rw [memRead, h, andThen_next]

/-- An access whose translation is still in the TLB finds its place again. -/
theorem locate_mapped_again {s0 : State} {isWrite : Bool} (h : locate va n isWrite s = .next (.mapped e pa, s0))
    (hframe : ReadFrame s0 t) (htlb : t.tlb = s0.tlb) : locate va n isWrite t = .next (.mapped e pa, t) := by
  have hframe0 := (locate_eq_next h).1.trans hframe
  obtain ⟨halign, hm, htranslate, hcheck, rfl⟩ := locate_mapped h
  refine locate_of_hit ?_ ?_ ?_ ?_
  · rwa [alignmentFault, hframe0.cp15_eq]
  · rwa [State.mmuOn, hframe0.cp15_eq]
  · rw [htlb]
    exact translate_again htranslate
  · rwa [checkAccess_congr hframe.cp15_eq hframe.cpsr_eq]

/-- Settles O32: the first read leaves TLB and cache so that the second hits both. -/
theorem secondReadIsServedFromTheCache : Obligations.SecondReadIsServedFromTheCache := by
  unfold Obligations.SecondReadIsServedFromTheCache
  intro va v n s s0 s1 e pa hon hlocate he hread
  rw [memRead_of_locate_mapped hlocate] at hread
  have hread := Host.Outcome.next.inj hread
  have hon0 : s0.cacheOn = true := by rwa [State.cacheOn, (locate_eq_next hlocate).1.cp15_eq]
  have hframe := readMapped_frame e pa va n s0
  rw [hread] at hframe
  obtain ⟨htlb, hagain⟩ := readMapped_again hon0 he hread
  rw [memRead_of_locate_mapped (locate_mapped_again hlocate hframe htlb), hagain]

/-! ### The cache clear (R117) -/

theorem cacheClear_line (s : State) (set : Fin 4) (slot : Fin 128) :
    (linesOf (cacheClear s).cache set).get slot = { (linesOf s.cache set).get slot with enabled := false } := by
  simp [cacheClear, linesOf, Vector.get_eq_getElem]

/-- A set without an enabled line answers for no address. -/
theorem cacheLookup_of_disabled {c : Cache} {a : Word} (h : ∀ i, ((linesOf c (setOf a)).get i).enabled = false) :
    cacheLookup c a = none := by
  rw [cacheLookup, List.find?_eq_none, List.forall_mem_iff_forall_getElem]
  intro i hi
  have hline := h ⟨i, by simpa using hi⟩
  simp only [Vector.get_eq_getElem] at hline
  simp [CacheLine.hits, hline]

/-- Settles O33: the clear is an update of the cache, line by line. -/
theorem cacheClearDisablesEveryLine : Obligations.CacheClearDisablesEveryLine := by
  unfold Obligations.CacheClearDisablesEveryLine
  exact fun s => ⟨rfl, cacheClear_line s, fun a => cacheLookup_of_disabled (cacheClear_disabled s (setOf a))⟩

/-! ### A read after a write (R71, R116, R120) -/

theorem CacheLine.hits_write (tag : BitVec 26) (l : CacheLine) (a v : Word) (n : Size) :
    (l.write a v n).hits tag = l.hits tag := by
  rw [CacheLine.hits, CacheLine.hits, CacheLine.write_tag, CacheLine.write_enabled]

/-- The line that answers after the update is the line that answered before, written. -/
theorem cacheLookup_cacheUpdateOnWrite (ta : Word) (n : Size) (v : Word) (s : State) :
    cacheLookup (cacheUpdateOnWrite ta n v s).cache ta = (cacheLookup s.cache ta).map fun l => l.write ta v n := by
  have hsame : CacheLine.hits (tagOf ta) ∘ (fun l => if l.hits (tagOf ta) then l.write ta v n else l) =
      CacheLine.hits (tagOf ta) := by
    funext l
    by_cases hl : l.hits (tagOf ta) = true
    · simp only [Function.comp, hl, if_true, CacheLine.hits_write]
    · simp only [Function.comp, hl, Bool.false_eq_true, if_false]
  rw [cacheLookup, cacheUpdateOnWrite, State.setCache_cache, linesOf_set, if_pos rfl, Vector.toList_map,
    List.find?_map, hsame, cacheLookup]
  cases hfind : (linesOf s.cache (setOf ta)).toList.find? (CacheLine.hits (tagOf ta)) with
  | none => rfl
  | some l => exact congrArg some (if_pos (List.find?_some hfind))

/-- The low bits of the place an access goes to are those of its address. -/
theorem target_low {isWrite : Bool} {p : Located × State} (h : locate va n isWrite s = .next p)
    (hpa : p.1.target = some pa) : (accessAddress va n).extractLsb' 0 4 = pa.extractLsb' 0 4 := by
  obtain ⟨p, s0⟩ := p
  cases p with
  | fault => cases hpa
  | physical => cases hpa; rw [(locate_physical h).2.1]
  | mapped e =>
    cases hpa
    obtain ⟨-, -, -, -, rfl⟩ := locate_mapped h
    exact (physAddr_low e _).symm

/-- While the TLB holds what an access left there, the next access to the address, of either direction, goes to the same
place. -/
theorem target_again {p q : Located} {s0 u : State} {pa' : Word} {isWrite isWrite' : Bool}
    (h : locate va n isWrite s = .next (p, s0)) (hpa : p.target = some pa) (hcp15 : t.cp15 = s.cp15)
    (htlb : t.tlb = s0.tlb) (h' : locate va n isWrite' t = .next (q, u)) (hpa' : q.target = some pa') :
    pa' = pa ∧ u = t := by
  have hmmu : t.mmuOn = s.mmuOn := by rw [State.mmuOn, hcp15, State.mmuOn]
  cases p with
  | fault => cases hpa
  | physical =>
    cases hpa
    obtain ⟨hoff, rfl, -⟩ := locate_physical h
    cases q with
    | fault => cases hpa'
    | physical => cases hpa'; exact (locate_physical h').2
    | mapped => exact absurd (locate_mapped h').2.1 (by rw [hmmu, hoff]; decide)
  | mapped e =>
    cases hpa
    obtain ⟨-, hon, htranslate, -, rfl⟩ := locate_mapped h
    cases q with
    | fault => cases hpa'
    | physical => exact absurd (locate_physical h').1 (by rw [hmmu, hon]; decide)
    | mapped e' =>
      cases hpa'
      obtain ⟨-, -, htranslate', -, rfl⟩ := locate_mapped h'
      rw [translate_of_hit (by rw [htlb]; exact translate_again htranslate)] at htranslate'
      cases htranslate'
      exact ⟨rfl, rfl⟩

theorem writeThrough_ram (h : busKindAt s.bus pa = .ram) (ta : Word) (n : Size) (v : Word) (f : FaultCode) :
    writeThrough ta pa n v f s = (none, cacheUpdateOnWrite ta n v
      ((s.logBus (.write pa n (truncateTo n v))).setMem (s.mem.writeSize pa.toNat n v))) := by
  simp [writeThrough, busWrite, h]

/-- A write to plain RAM that succeeds: memory written, the line that answers for the address written, the TLB as the
access left it. -/
theorem memWrite_plainRam {v : Word} (hram : s.PlainRam) (h : memWrite va n v s = .next (none, t)) :
    ∃ p s0, locate va n true s = .next (p, s0) ∧ ∃ pa, p.target = some pa ∧ t.tlb = s0.tlb ∧
      t.mem = s.mem.writeSize pa.toNat n v ∧
      cacheLookup t.cache (tagAddress t.params (accessAddress va n) pa) =
        (cacheLookup s.cache (tagAddress t.params (accessAddress va n) pa)).map
          fun l => l.write (tagAddress t.params (accessAddress va n) pa) v n := by
  unfold memWrite at h
  obtain ⟨⟨p, s0⟩, hlocate, h⟩ := andThen_eq_next.mp h
  obtain ⟨hframe, hcache⟩ := locate_eq_next hlocate
  have hram0 (pa : Word) : busKindAt s0.bus pa = .ram := by rw [hframe.bus_eq]; exact hram pa
  cases p with
  | fault => cases h
  | physical pa | mapped _ pa =>
    have hthrough := (writeThrough_ram (hram0 pa) _ n v _).symm.trans (Host.Outcome.next.inj h)
    cases hthrough
    refine ⟨_, s0, hlocate, pa, rfl, rfl, by rw [← hframe.mem_eq]; rfl, ?_⟩
    rw [← hcache]
    exact cacheLookup_cacheUpdateOnWrite _ n v _

theorem ofBus_busRead_ram {x : Word} (h : busKindAt s.bus pa = .ram)
    (hread : Reply.ofBus f (busRead pa n s) = (.value x, t)) : x = s.mem.readSize pa.toNat n := by
  rw [busRead_ram h] at hread
  cases hread
  rfl

/-- A value that memory holds at the place of an access, or the line that answers for its address. -/
def State.HoldsAt (s : State) (va pa : Word) (n : Size) (x : Word) : Prop :=
  x = s.mem.readSize pa.toNat n ∨ ∃ line,
    cacheLookup s.cache (tagAddress s.params (accessAddress va n) pa) = some line ∧
      x = line.read (tagAddress s.params (accessAddress va n) pa) n

/-- What a mapped read of plain RAM answers. -/
theorem readMapped_plainRam {x : Word} (hram : s.PlainRam)
    (hlow : (accessAddress va n).extractLsb' 0 4 = pa.extractLsb' 0 4) (h : readMapped e pa va n s = (.value x, t)) :
    s.HoldsAt va pa n x := by
  unfold readMapped at h
  dsimp only at h
  split at h
  · split at h
    · rename_i line hline
      cases h
      exact .inr ⟨line, hline, rfl⟩
    · split at h
      · rw [cacheRefillAndRead_plainRam hram,
          ramLine_read s.mem (tagAddress_low s.params hlow) (aligned_of_low hlow)] at h
        cases h
        exact .inl rfl
      · exact .inl (ofBus_busRead_ram (hram pa) h)
  · exact .inl (ofBus_busRead_ram (hram pa) h)

theorem memRead_plainRam {x : Word} (hram : s.PlainRam) (h : memRead va n s = .next (.value x, t)) :
    ∃ p s0, locate va n false s = .next (p, s0) ∧ ∃ pa, p.target = some pa ∧ s.HoldsAt va pa n x := by
  unfold memRead at h
  obtain ⟨⟨p, s0⟩, hlocate, h⟩ := andThen_eq_next.mp h
  obtain ⟨hframe, hcache⟩ : ReadFrame s s0 ∧ s0.cache = s.cache := locate_eq_next hlocate
  have hram0 : s0.PlainRam := by rwa [State.PlainRam, hframe.bus_eq]
  have hholds {pa : Word} (hx : s0.HoldsAt va pa n x) : s.HoldsAt va pa n x := by
    rwa [State.HoldsAt, hframe.mem_eq, hcache, hframe.params_eq] at hx
  refine ⟨p, s0, hlocate, ?_⟩
  cases p with
  | fault => cases h
  | physical pa => exact ⟨pa, rfl, hholds (.inl (ofBus_busRead_ram (hram0 pa) (Host.Outcome.next.inj h)))⟩
  | mapped e pa =>
    exact ⟨pa, rfl, hholds (readMapped_plainRam hram0 (target_low hlocate rfl) (Host.Outcome.next.inj h))⟩

/-- Settles O34: the load goes where the store went, and finds the value in the line written or in memory. -/
theorem loadAfterStoreGivesTheValueStored : Obligations.LoadAfterStoreGivesTheValueStored := by
  unfold Obligations.LoadAfterStoreGivesTheValueStored
  intro va v x n s s1 s2 hwf hram hwrite hread
  have hframe := memWrite_frame hwrite
  obtain ⟨p, s0, hlocate, pa, hpa, htlb, hmem, hcache⟩ := memWrite_plainRam hram hwrite
  have hram1 : s1.PlainRam := by rwa [State.PlainRam, hframe.bus_eq]
  obtain ⟨q, u, hlocate', pa', hpa', hx⟩ := memRead_plainRam hram1 hread
  obtain ⟨rfl, -⟩ := target_again hlocate hpa hframe.cp15_eq htlb hlocate' hpa'
  rcases hx with rfl | ⟨line, hline, rfl⟩
  · rw [hmem]
    exact Memory.readSize_writeSize hwf (target_end_le hlocate hpa) v
  · rw [hcache] at hline
    obtain ⟨l, -, rfl⟩ := Option.map_eq_some_iff.mp hline
    exact l.read_write _ v n

end Sys2Proof.Machine

/-! PROOFS. Encoding (30_encoding.md R130 to R151): the fields of each format, the class of each word, and the two round
trips. -/

namespace Sys2Proof

/-! ### Fields of a word -/

section Fields

variable {w : Word} {lo m n : Nat}

/-- A field is its top bit and the field below it: what turns overlapping fields into bits. -/
theorem fieldOf_succ_eq_iff {v : BitVec (n + 1)} :
    fieldOf w lo (n + 1) = v ↔ w.getLsbD (lo + n) = v.getLsbD n ∧ fieldOf w lo n = v.extractLsb' 0 n := by
  simp only [BitVec.eq_of_getLsbD_eq_iff, BitVec.getLsbD_extractLsb']
  constructor
  · intro h
    refine ⟨by simpa using h n (by omega), fun i hi => ?_⟩
    simpa [hi, Nat.lt_succ_of_lt hi] using h i (by omega)
  · rintro ⟨htop, hlow⟩ i hi
    rcases Nat.lt_succ_iff_lt_or_eq.mp hi with h | rfl
    · simpa [h, hi] using hlow i h
    · simpa using htop

theorem fieldOf_fieldOf {k : Nat} (h : k + m ≤ n) : (fieldOf w lo n).extractLsb' k m = fieldOf w (lo + k) m := by
  ext i hi
  simp [show k + i < n by omega, Nat.add_assoc]

/-- A field within a known field. -/
theorem fieldOf_within {v : BitVec n} (h : fieldOf w lo n = v) {k : Nat} (hk : k + m ≤ n) :
    fieldOf w (lo + k) m = v.extractLsb' k m := by
  rw [← h, fieldOf_fieldOf hk]

theorem fieldOf_eq_ofBool (w : Word) (i : Nat) : fieldOf w i 1 = BitVec.ofBool (flagOf w i) := by
  have h : ∀ x : BitVec 1, x = BitVec.ofBool (x == 1#1) := by decide
  exact h _

theorem flagOf_eq {i : Nat} {b : Bool} (h : fieldOf w i 1 = BitVec.ofBool b) : flagOf w i = b :=
  (congrArg (· == 1#1) h).trans (by cases b <;> rfl)

theorem regOf_eq {r : Reg} (h : fieldOf w lo 4 = Reg.bits r) : regOf w lo = r := congrArg BitVec.toFin h

theorem fieldOf_eq_one_of_flagOf {i : Nat} (h : flagOf w i = true) : fieldOf w i 1 = 1#1 := eq_of_beq h

theorem fieldOf_eq_zero_of_flagOf {i : Nat} (h : flagOf w i = false) : fieldOf w i 1 = 0#1 := by
  rw [fieldOf_eq_ofBool, h]; rfl

/-- Bits in two parts are a word's field when the word's two adjacent fields are the parts. -/
theorem append_eq_fieldOf_iff {x : BitVec m} {y : BitVec n} {P : Prop} (h : x = fieldOf w (lo + n) m ↔ P) :
    x ++ y = fieldOf w lo (m + n) ↔ P ∧ fieldOf w lo n = y := by
  rw [← h]
  constructor
  · intro hxy
    have hx : (x ++ y).extractLsb' n m = x := by simp [BitVec.extractLsb'_append_eq_of_le]
    have hy : (x ++ y).extractLsb' 0 n = y := by simp [BitVec.extractLsb'_append_eq_of_add_le]
    rw [hxy, fieldOf_fieldOf (by omega)] at hx hy
    exact ⟨hx.symm, hy⟩
  · rintro ⟨rfl, rfl⟩
    exact BitVec.extractLsb'_append_extractLsb'_eq_extractLsb' rfl

theorem eq_word_iff {x : Word} : x = w ↔ x = fieldOf w 0 32 := by rw [fieldOf, BitVec.extractLsb'_eq_self]

end Fields

/-! ### Bytes (R64, R130) -/

theorem wordOfBytes_fieldOf (w : Word) :
    wordOfBytes (fieldOf w 0 8) (fieldOf w 8 8) (fieldOf w 16 8) (fieldOf w 24 8) = w := by
  rw [eq_word_iff, wordOfBytes]
  repeat' with_reducible rw [append_eq_fieldOf_iff Iff.rfl]
  exact ⟨⟨⟨rfl, rfl⟩, rfl⟩, rfl⟩

theorem decode_bytesOfWord (w : Word) (rest : List Byte) : decode (bytesOfWord w ++ rest) = .ok (decodeWord w, rest) :=
  congrArg (fun v => Except.ok (decodeWord v, rest)) (wordOfBytes_fieldOf w)

/-! ### Codes of conditions and shift types -/

theorem Cond.ofCode_code (c : Cond) : Cond.ofCode c.code = some c := by cases c <;> rfl

theorem Cond.code_of_ofCode {x : BitVec 4} {c : Cond} (h : Cond.ofCode x = some c) : c.code = x := by
  have hall : ∀ x : BitVec 4, (Cond.ofCode x).all (fun c => c.code == x) = true := by decide
  simpa [h] using hall x

theorem Cond.ofCode_eq_none {x : BitVec 4} (h : Cond.ofCode x = none) : x = 0b1111#4 := by
  revert x; decide

theorem Shift.ofCode_code (sh : Shift) : Shift.ofCode sh.code = sh := by cases sh <;> rfl

theorem Shift.code_ofCode (x : BitVec 2) : (Shift.ofCode x).code = x := by
  revert x; decide

/-! ### The fields of each format (R132 to R140, R147 to R149) -/

section Formats

variable {w : Word} {c : Cond}

theorem encodeDp_eq_iff {opcode f19 f15 : BitVec 4} {sf : Bool} {op2 : Operand2} :
    encodeDp c opcode sf f19 f15 op2 = w ↔ fieldOf w 28 4 = c.code ∧ fieldOf w 26 2 = 0b00#2 ∧
      fieldOf w 25 1 = op2.iBit ∧ fieldOf w 21 4 = opcode ∧ fieldOf w 20 1 = BitVec.ofBool sf ∧ fieldOf w 16 4 = f19 ∧
      fieldOf w 12 4 = f15 ∧ fieldOf w 0 12 = op2.bits := by
  refine eq_word_iff.trans ?_
  simp only [encodeDp, ← and_assoc]
  repeat' with_reducible apply append_eq_fieldOf_iff
  exact eq_comm

theorem encodeMultiply_eq_iff {acc : BitVec 1} {sf : Bool} {rd rs rm : Reg} {rn : BitVec 4} :
    encodeMultiply c acc sf rd rn rs rm = w ↔ fieldOf w 28 4 = c.code ∧ fieldOf w 22 6 = 0b000000#6 ∧
      fieldOf w 21 1 = acc ∧ fieldOf w 20 1 = BitVec.ofBool sf ∧ fieldOf w 16 4 = Reg.bits rd ∧ fieldOf w 12 4 = rn ∧
      fieldOf w 8 4 = Reg.bits rs ∧ fieldOf w 4 4 = 0b1001#4 ∧ fieldOf w 0 4 = Reg.bits rm := by
  refine eq_word_iff.trans ?_
  simp only [encodeMultiply, ← and_assoc]
  repeat' with_reducible apply append_eq_fieldOf_iff
  exact eq_comm

theorem encodeSwap_eq_iff {byte : BitVec 1} {rn rd rm : Reg} :
    encodeSwap c byte rn rd rm = w ↔ fieldOf w 28 4 = c.code ∧ fieldOf w 23 5 = 0b00010#5 ∧ fieldOf w 22 1 = byte ∧
      fieldOf w 20 2 = 0b00#2 ∧ fieldOf w 16 4 = Reg.bits rn ∧ fieldOf w 12 4 = Reg.bits rd ∧
      fieldOf w 4 8 = 0b00001001#8 ∧ fieldOf w 0 4 = Reg.bits rm := by
  refine eq_word_iff.trans ?_
  simp only [encodeSwap, ← and_assoc]
  repeat' with_reducible apply append_eq_fieldOf_iff
  exact eq_comm

theorem encodeSingle_eq_iff {load byte : BitVec 1} {p u wb : Bool} {rn rd : Reg} {off : Offset} :
    encodeSingle c load byte p u wb rn rd off = w ↔ fieldOf w 28 4 = c.code ∧ fieldOf w 26 2 = 0b01#2 ∧
      fieldOf w 25 1 = off.iBit ∧ fieldOf w 24 1 = BitVec.ofBool p ∧ fieldOf w 23 1 = BitVec.ofBool u ∧
      fieldOf w 22 1 = byte ∧ fieldOf w 21 1 = BitVec.ofBool wb ∧ fieldOf w 20 1 = load ∧
      fieldOf w 16 4 = Reg.bits rn ∧ fieldOf w 12 4 = Reg.bits rd ∧ fieldOf w 0 12 = off.bits := by
  refine eq_word_iff.trans ?_
  simp only [encodeSingle, ← and_assoc]
  repeat' with_reducible apply append_eq_fieldOf_iff
  exact eq_comm

theorem encodeBlock_eq_iff {load : BitVec 1} {p u sb wb : Bool} {rn : Reg} {list : BitVec 16} :
    encodeBlock c load p u sb wb rn list = w ↔ fieldOf w 28 4 = c.code ∧ fieldOf w 25 3 = 0b100#3 ∧
      fieldOf w 24 1 = BitVec.ofBool p ∧ fieldOf w 23 1 = BitVec.ofBool u ∧ fieldOf w 22 1 = BitVec.ofBool sb ∧
      fieldOf w 21 1 = BitVec.ofBool wb ∧ fieldOf w 20 1 = load ∧ fieldOf w 16 4 = Reg.bits rn ∧
      fieldOf w 0 16 = list := by
  refine eq_word_iff.trans ?_
  simp only [encodeBlock, ← and_assoc]
  repeat' with_reducible apply append_eq_fieldOf_iff
  exact eq_comm

theorem encodeCp15_eq_iff {load : BitVec 1} {opc1 opc2 : BitVec 3} {crn crm : BitVec 4} {rd : Reg} :
    encodeCp15 c load opc1 crn rd opc2 crm = w ↔ fieldOf w 28 4 = c.code ∧ fieldOf w 24 4 = 0b1110#4 ∧
      fieldOf w 21 3 = opc1 ∧ fieldOf w 20 1 = load ∧ fieldOf w 16 4 = crn ∧ fieldOf w 12 4 = Reg.bits rd ∧
      fieldOf w 8 4 = 0b1111#4 ∧ fieldOf w 5 3 = opc2 ∧ fieldOf w 4 1 = 1#1 ∧ fieldOf w 0 4 = crm := by
  refine eq_word_iff.trans ?_
  simp only [encodeCp15, ← and_assoc]
  repeat' with_reducible apply append_eq_fieldOf_iff
  exact eq_comm

/-- MRS (R133): bit 22 names the status register. -/
theorem mrsBits_eq_iff {psr : BitVec 1} {rd : Reg} :
    c.code ++ 0b00010#5 ++ psr ++ 0b00#2 ++ 0b1111#4 ++ Reg.bits rd ++ 0#12 = w ↔ fieldOf w 28 4 = c.code ∧
      fieldOf w 23 5 = 0b00010#5 ∧ fieldOf w 22 1 = psr ∧ fieldOf w 20 2 = 0b00#2 ∧ fieldOf w 16 4 = 0b1111#4 ∧
      fieldOf w 12 4 = Reg.bits rd ∧ fieldOf w 0 12 = 0#12 := by
  refine eq_word_iff.trans ?_
  simp only [← and_assoc]
  repeat' with_reducible apply append_eq_fieldOf_iff
  exact eq_comm

/-- MSR from a register (R133): `f19` tells the whole register from its flags. -/
theorem msrRegBits_eq_iff {psr : BitVec 1} {f19 : BitVec 4} {rm : Reg} :
    c.code ++ 0b00010#5 ++ psr ++ 0b10#2 ++ f19 ++ 0b1111#4 ++ 0#8 ++ Reg.bits rm = w ↔ fieldOf w 28 4 = c.code ∧
      fieldOf w 23 5 = 0b00010#5 ∧ fieldOf w 22 1 = psr ∧ fieldOf w 20 2 = 0b10#2 ∧ fieldOf w 16 4 = f19 ∧
      fieldOf w 12 4 = 0b1111#4 ∧ fieldOf w 4 8 = 0#8 ∧ fieldOf w 0 4 = Reg.bits rm := by
  refine eq_word_iff.trans ?_
  simp only [← and_assoc]
  repeat' with_reducible apply append_eq_fieldOf_iff
  exact eq_comm

/-- MSR of the flags from an immediate (R133). -/
theorem msrImmBits_eq_iff {psr : BitVec 1} {rot : BitVec 4} {imm8 : BitVec 8} :
    c.code ++ 0b00110#5 ++ psr ++ 0b10#2 ++ 0b1000#4 ++ 0b1111#4 ++ rot ++ imm8 = w ↔ fieldOf w 28 4 = c.code ∧
      fieldOf w 23 5 = 0b00110#5 ∧ fieldOf w 22 1 = psr ∧ fieldOf w 20 2 = 0b10#2 ∧ fieldOf w 16 4 = 0b1000#4 ∧
      fieldOf w 12 4 = 0b1111#4 ∧ fieldOf w 8 4 = rot ∧ fieldOf w 0 8 = imm8 := by
  refine eq_word_iff.trans ?_
  simp only [← and_assoc]
  repeat' with_reducible apply append_eq_fieldOf_iff
  exact eq_comm

theorem encode_uppTrap_eq_iff {imm : Bool} {opLow : BitVec 2} {f19 f15 : BitVec 4} {f11 : BitVec 12} :
    encode (.uppTrap c imm opLow f19 f15 f11) = w ↔ fieldOf w 28 4 = c.code ∧ fieldOf w 26 2 = 0b00#2 ∧
      fieldOf w 25 1 = BitVec.ofBool imm ∧ fieldOf w 23 2 = 0b10#2 ∧ fieldOf w 21 2 = opLow ∧ fieldOf w 20 1 = 0#1 ∧
      fieldOf w 16 4 = f19 ∧ fieldOf w 12 4 = f15 ∧ fieldOf w 0 12 = f11 := by
  refine eq_word_iff.trans ?_
  simp only [encode, ← and_assoc]
  repeat' with_reducible apply append_eq_fieldOf_iff
  exact eq_comm

theorem encode_uppBits4And7_eq_iff {opLow f5 : BitVec 2} {f19 f15 f8 f0 : BitVec 4} :
    encode (.uppBits4And7 c opLow f19 f15 f8 f5 f0) = w ↔ fieldOf w 28 4 = c.code ∧ fieldOf w 26 2 = 0b00#2 ∧
      fieldOf w 25 1 = 0#1 ∧ fieldOf w 23 2 = 0b10#2 ∧ fieldOf w 21 2 = opLow ∧ fieldOf w 20 1 = 0#1 ∧
      fieldOf w 16 4 = f19 ∧ fieldOf w 12 4 = f15 ∧ fieldOf w 8 4 = f8 ∧ fieldOf w 7 1 = 1#1 ∧ fieldOf w 5 2 = f5 ∧
      fieldOf w 4 1 = 1#1 ∧ fieldOf w 0 4 = f0 := by
  refine eq_word_iff.trans ?_
  simp only [encode, ← and_assoc]
  repeat' with_reducible apply append_eq_fieldOf_iff
  exact eq_comm

/-- Branch (R138): bit 24 is the link bit. -/
theorem branchBits_eq_iff {link : BitVec 1} {off24 : BitVec 24} :
    c.code ++ 0b101#3 ++ link ++ off24 = w ↔
      fieldOf w 28 4 = c.code ∧ fieldOf w 25 3 = 0b101#3 ∧ fieldOf w 24 1 = link ∧ fieldOf w 0 24 = off24 := by
  refine eq_word_iff.trans ?_
  simp only [← and_assoc]
  repeat' with_reducible apply append_eq_fieldOf_iff
  exact eq_comm

theorem encode_swi_eq_iff {comment : BitVec 24} :
    encode (.swi c comment) = w ↔
      fieldOf w 28 4 = c.code ∧ fieldOf w 24 4 = 0b1111#4 ∧ fieldOf w 0 24 = comment := by
  refine eq_word_iff.trans ?_
  simp only [encode, ← and_assoc]
  repeat' with_reducible apply append_eq_fieldOf_iff
  exact eq_comm

theorem encode_undefined011x1_eq_iff {hi : BitVec 20} {lo : BitVec 4} :
    encode (.undefined011x1 c hi lo) = w ↔ fieldOf w 28 4 = c.code ∧ fieldOf w 25 3 = 0b011#3 ∧
      fieldOf w 5 20 = hi ∧ fieldOf w 4 1 = 1#1 ∧ fieldOf w 0 4 = lo := by
  refine eq_word_iff.trans ?_
  simp only [encode, ← and_assoc]
  repeat' with_reducible apply append_eq_fieldOf_iff
  exact eq_comm

theorem encode_undefinedLdcStc_eq_iff {low25 : BitVec 25} :
    encode (.undefinedLdcStc c low25) = w ↔
      fieldOf w 28 4 = c.code ∧ fieldOf w 25 3 = 0b110#3 ∧ fieldOf w 0 25 = low25 := by
  refine eq_word_iff.trans ?_
  simp only [encode, ← and_assoc]
  repeat' with_reducible apply append_eq_fieldOf_iff
  exact eq_comm

theorem encode_undefinedCdp_eq_iff {hi : BitVec 19} {lo : BitVec 4} :
    encode (.undefinedCdp c hi lo) = w ↔ fieldOf w 28 4 = c.code ∧ fieldOf w 24 4 = 0b1110#4 ∧
      fieldOf w 5 19 = hi ∧ fieldOf w 4 1 = 0#1 ∧ fieldOf w 0 4 = lo := by
  refine eq_word_iff.trans ?_
  simp only [encode, ← and_assoc]
  repeat' with_reducible apply append_eq_fieldOf_iff
  exact eq_comm

theorem encode_undefinedMrcMcrNotP15_eq_iff {hi : BitVec 12} {cpNum lo : BitVec 4} {mid : BitVec 3} :
    encode (.undefinedMrcMcrNotP15 c hi cpNum mid lo) = w ↔ fieldOf w 28 4 = c.code ∧ fieldOf w 24 4 = 0b1110#4 ∧
      fieldOf w 12 12 = hi ∧ fieldOf w 8 4 = cpNum ∧ fieldOf w 5 3 = mid ∧ fieldOf w 4 1 = 1#1 ∧
      fieldOf w 0 4 = lo := by
  refine eq_word_iff.trans ?_
  simp only [encode, ← and_assoc]
  repeat' with_reducible apply append_eq_fieldOf_iff
  exact eq_comm

theorem encode_nvAny_eq_iff {low28 : BitVec 28} :
    encode (.nvAny low28) = w ↔ fieldOf w 28 4 = 0b1111#4 ∧ fieldOf w 0 28 = low28 := by
  refine eq_word_iff.trans ?_
  simp only [encode]
  exact append_eq_fieldOf_iff eq_comm

/-- The low twelve bits of a register shifted by an immediate amount (R143, R145). -/
theorem shiftedBits_eq_iff {amt : BitVec 5} {sh : BitVec 2} {rm : Reg} :
    amt ++ sh ++ 0#1 ++ Reg.bits rm = fieldOf w 0 12 ↔
      fieldOf w 7 5 = amt ∧ fieldOf w 5 2 = sh ∧ fieldOf w 4 1 = 0#1 ∧ fieldOf w 0 4 = Reg.bits rm := by
  simp only [← and_assoc]
  repeat' with_reducible apply append_eq_fieldOf_iff
  exact eq_comm

/-- The low twelve bits of a register shifted by a register (R143), and of the words of R150 (a). -/
theorem regShiftedBits_eq_iff {b7 : BitVec 1} {sh : BitVec 2} {rs rm : Reg} :
    Reg.bits rs ++ b7 ++ sh ++ 1#1 ++ Reg.bits rm = fieldOf w 0 12 ↔ fieldOf w 8 4 = Reg.bits rs ∧
      fieldOf w 7 1 = b7 ∧ fieldOf w 5 2 = sh ∧ fieldOf w 4 1 = 1#1 ∧ fieldOf w 0 4 = Reg.bits rm := by
  simp only [← and_assoc]
  repeat' with_reducible apply append_eq_fieldOf_iff
  exact eq_comm

end Formats

/-! ### Second operands and offsets (R142, R143, R145) -/

section Operands

variable {w : Word}

theorem decodeOperand2_eq {op2 : Operand2} (h25 : fieldOf w 25 1 = op2.iBit) (h0 : fieldOf w 0 12 = op2.bits) :
    decodeOperand2 w = op2 := by
  cases op2 with
  | imm rot imm8 =>
    obtain ⟨h8, h0⟩ := (append_eq_fieldOf_iff eq_comm).mp h0.symm
    simp [decodeOperand2, flagOf_eq (b := true) h25, h8, h0]
  | shiftImm rm sh amt =>
    obtain ⟨h7, h5, h4, h0⟩ := shiftedBits_eq_iff.mp h0.symm
    simp only [decodeOperand2, flagOf_eq (b := false) h25, flagOf_eq (b := false) h4, h7, h5, regOf_eq h0,
      Shift.ofCode_code, Bool.false_eq_true, if_false]
  | shiftReg rm sh rs =>
    obtain ⟨h8, h7, h5, h4, h0⟩ := regShiftedBits_eq_iff.mp h0.symm
    simp only [decodeOperand2, flagOf_eq (b := false) h25, flagOf_eq (b := true) h4, flagOf_eq (b := false) h7, h5,
      regOf_eq h8, regOf_eq h0, Shift.ofCode_code, Bool.false_eq_true, if_true, if_false]
  | bits4And7 rm sh rs =>
    obtain ⟨h8, h7, h5, h4, h0⟩ := regShiftedBits_eq_iff.mp h0.symm
    simp only [decodeOperand2, flagOf_eq (b := false) h25, flagOf_eq (b := true) h4, flagOf_eq (b := true) h7, h5,
      regOf_eq h8, regOf_eq h0, Shift.ofCode_code, Bool.false_eq_true, if_true, if_false]

theorem decodeOperand2_fields (w : Word) :
    fieldOf w 25 1 = (decodeOperand2 w).iBit ∧ fieldOf w 0 12 = (decodeOperand2 w).bits := by
  unfold decodeOperand2
  split_ifs with h25 h4 h7
  · have hbits := (append_eq_fieldOf_iff (w := w) (lo := 0) (m := 4) (n := 8) eq_comm).mpr ⟨rfl, rfl⟩
    exact ⟨fieldOf_eq_one_of_flagOf h25, hbits.symm⟩
  · have hbits := regShiftedBits_eq_iff.mpr ⟨rfl, fieldOf_eq_one_of_flagOf h7,
      (Shift.code_ofCode (fieldOf w 5 2)).symm, fieldOf_eq_one_of_flagOf h4, rfl⟩
    exact ⟨fieldOf_eq_zero_of_flagOf (Bool.eq_false_of_not_eq_true h25), hbits.symm⟩
  · have hbits := regShiftedBits_eq_iff.mpr ⟨rfl, fieldOf_eq_zero_of_flagOf (Bool.eq_false_of_not_eq_true h7),
      (Shift.code_ofCode (fieldOf w 5 2)).symm, fieldOf_eq_one_of_flagOf h4, rfl⟩
    exact ⟨fieldOf_eq_zero_of_flagOf (Bool.eq_false_of_not_eq_true h25), hbits.symm⟩
  · have hbits := shiftedBits_eq_iff.mpr
      ⟨rfl, (Shift.code_ofCode (fieldOf w 5 2)).symm, fieldOf_eq_zero_of_flagOf (Bool.eq_false_of_not_eq_true h4), rfl⟩
    exact ⟨fieldOf_eq_zero_of_flagOf (Bool.eq_false_of_not_eq_true h25), hbits.symm⟩

/-- The second operand that makes AND and EOR a multiply word is the field `1001` of R134. -/
theorem notMultiply_decodeOperand2 (w : Word) :
    (decodeOperand2 w).notMultiply = false ↔ fieldOf w 25 1 = 0#1 ∧ fieldOf w 4 4 = 0b1001#4 := by
  have hsh : ∀ x : BitVec 2, Shift.ofCode x = .lsl ↔ x = 0b00#2 := by decide
  have h44 : fieldOf w 4 4 = 0b1001#4 ↔ fieldOf w 7 1 = 1#1 ∧ fieldOf w 5 2 = 0b00#2 ∧ fieldOf w 4 1 = 1#1 := by
    simp [fieldOf_succ_eq_iff, and_assoc]
  by_cases h25 : flagOf w 25 = true
  · simp [decodeOperand2, h25, fieldOf_eq_one_of_flagOf h25, Operand2.notMultiply]
  simp only [decodeOperand2, if_neg h25, fieldOf_eq_zero_of_flagOf (Bool.eq_false_of_not_eq_true h25), true_and, h44]
  split_ifs with h4 h7
  · rw [fieldOf_eq_one_of_flagOf h4, fieldOf_eq_one_of_flagOf h7, ← hsh]
    cases Shift.ofCode (fieldOf w 5 2) <;> simp [Operand2.notMultiply]
  · simp [Operand2.notMultiply, fieldOf_eq_zero_of_flagOf (Bool.eq_false_of_not_eq_true h7)]
  · simp [Operand2.notMultiply, fieldOf_eq_zero_of_flagOf (Bool.eq_false_of_not_eq_true h4)]

theorem decodeOffset_eq {off : Offset} (h25 : fieldOf w 25 1 = off.iBit) (h0 : fieldOf w 0 12 = off.bits) :
    decodeOffset w = off := by
  cases off with
  | imm imm12 => rw [decodeOffset, flagOf_eq (b := false) h25, h0]; rfl
  | shifted rm sh amt =>
    obtain ⟨h7, h5, h4, h0⟩ := shiftedBits_eq_iff.mp h0.symm
    simp only [decodeOffset, flagOf_eq (b := true) h25, h7, h5, regOf_eq h0, Shift.ofCode_code, if_true]

/-- An offset with bit 25 set has bit 4 clear. -/
theorem Offset.flags {off : Offset} (h25 : fieldOf w 25 1 = off.iBit) (h0 : fieldOf w 0 12 = off.bits) :
    ¬ (flagOf w 25 = true ∧ flagOf w 4 = true) := by
  cases off with
  | imm imm12 => simp [h25, Offset.iBit]
  | shifted rm sh amt =>
    obtain ⟨-, -, h4, -⟩ := shiftedBits_eq_iff.mp h0.symm
    simp [h4]

theorem decodeOffset_fields (h : ¬ (flagOf w 25 = true ∧ flagOf w 4 = true)) :
    fieldOf w 25 1 = (decodeOffset w).iBit ∧ fieldOf w 0 12 = (decodeOffset w).bits := by
  unfold decodeOffset
  split_ifs with h25
  · exact ⟨fieldOf_eq_one_of_flagOf h25, (shiftedBits_eq_iff.mpr ⟨rfl, (Shift.code_ofCode _).symm,
      fieldOf_eq_zero_of_flagOf (by simpa [h25] using h), rfl⟩).symm⟩
  · exact ⟨fieldOf_eq_zero_of_flagOf (Bool.eq_false_of_not_eq_true h25), rfl⟩

end Operands

/-! ### The class of a word (R141, R147) -/

section Classes

variable {w : Word} {c : Cond}

theorem decodeWord_of_code (h : fieldOf w 28 4 = c.code) : decodeWord w = decodeClass c w := by
  rw [decodeWord, h, Cond.ofCode_code]

theorem decodeWord_of_nv (h : fieldOf w 28 4 = 0b1111#4) : decodeWord w = .nvAny (fieldOf w 0 28) := by
  rw [decodeWord, h]
  rfl

theorem decodeClass_swi (h : fieldOf w 24 4 = 0b1111#4) : decodeClass c w = .swi c (fieldOf w 0 24) := if_pos h

theorem decodeClass_cp15 (h : fieldOf w 24 4 = 0b1110#4) (hcp : fieldOf w 8 4 = 0b1111#4) (h4 : flagOf w 4 = true) :
    decodeClass c w = decodeCp15 c w := by
  simp [decodeClass, h, hcp, h4]

theorem decodeClass_branch (h : fieldOf w 25 3 = 0b101#3) : decodeClass c w = decodeBranch c w := by
  simp [fieldOf_succ_eq_iff, decodeClass] at h ⊢
  simp [h]

theorem decodeClass_block (h : fieldOf w 25 3 = 0b100#3) : decodeClass c w = decodeBlock c w := by
  simp [fieldOf_succ_eq_iff, decodeClass] at h ⊢
  simp [h]

theorem decodeClass_single (h : fieldOf w 26 2 = 0b01#2) (h4 : ¬ (flagOf w 25 = true ∧ flagOf w 4 = true)) :
    decodeClass c w = decodeSingle c w := by
  simp only [decodeClass, h, h4]
  simp [fieldOf_succ_eq_iff] at h ⊢
  simp [h]

theorem decodeClass_swap (h : fieldOf w 23 5 = 0b00010#5) (h20 : fieldOf w 20 2 = 0b00#2)
    (h4 : fieldOf w 4 8 = 0b00001001#8) : decodeClass c w = decodeSwap c w := by
  simp only [decodeClass, h, h20, h4]
  simp [fieldOf_succ_eq_iff] at h ⊢
  simp [h]

theorem decodeClass_multiply (h : fieldOf w 22 6 = 0b000000#6) (h4 : fieldOf w 4 4 = 0b1001#4) :
    decodeClass c w = decodeMultiply c w := by
  simp only [decodeClass, h, h4]
  simp [fieldOf_succ_eq_iff] at h ⊢
  simp [h]

/-- A single data swap word (R141 row 6). -/
def IsSwapWord (w : Word) : Prop :=
  fieldOf w 23 5 = 0b00010#5 ∧ fieldOf w 20 2 = 0b00#2 ∧ fieldOf w 4 8 = 0b00001001#8

/-- A multiply word (R141 row 7). -/
def IsMultiplyWord (w : Word) : Prop := fieldOf w 22 6 = 0b000000#6 ∧ fieldOf w 4 4 = 0b1001#4

theorem decodeClass_dataProcessing (h : fieldOf w 26 2 = 0b00#2) (hswap : ¬ IsSwapWord w)
    (hmul : ¬ IsMultiplyWord w) : decodeClass c w = decodeDataProcessing c w := by
  simp only [IsSwapWord, IsMultiplyWord] at hswap hmul
  simp only [decodeClass, h, hswap, hmul]
  simp [fieldOf_succ_eq_iff] at h ⊢
  simp [h]

/-- The undefined-instruction space (R148 a to d). -/
def IsUndefinedWord (w : Word) : Prop :=
  fieldOf w 25 3 = 0b011#3 ∧ flagOf w 4 = true ∨ fieldOf w 25 3 = 0b110#3 ∨
    fieldOf w 24 4 = 0b1110#4 ∧ flagOf w 4 = false ∨
    fieldOf w 24 4 = 0b1110#4 ∧ flagOf w 4 = true ∧ fieldOf w 8 4 ≠ 0b1111#4

theorem decodeClass_undefined (h : IsUndefinedWord w) : decodeClass c w = decodeUndefined c w := by
  rcases h with ⟨h, h4⟩ | h | ⟨h, h4⟩ | ⟨h, h4, hcp⟩
  · simp only [decodeClass, h4]
    simp [fieldOf_succ_eq_iff] at h ⊢
    simp [h]
  · simp [fieldOf_succ_eq_iff, decodeClass] at h ⊢
    simp [h]
  · simp only [decodeClass, h4]
    simp [fieldOf_succ_eq_iff] at h ⊢
    simp [h]
  · simp only [decodeClass, h4, hcp]
    simp [fieldOf_succ_eq_iff] at h ⊢
    simp [h]

/-- What no earlier class takes is the undefined-instruction space (R148). -/
theorem isUndefinedWord_of_no_class (hswi : fieldOf w 24 4 ≠ 0b1111#4)
    (hcp : ¬ (fieldOf w 24 4 = 0b1110#4 ∧ fieldOf w 8 4 = 0b1111#4 ∧ flagOf w 4 = true))
    (hbranch : fieldOf w 25 3 ≠ 0b101#3) (hblock : fieldOf w 25 3 ≠ 0b100#3)
    (hsingle : ¬ (fieldOf w 26 2 = 0b01#2 ∧ ¬ (flagOf w 25 = true ∧ flagOf w 4 = true)))
    (hdp : fieldOf w 26 2 ≠ 0b00#2) : IsUndefinedWord w := by
  have htop : ∀ x : BitVec 4, x ≠ 0b1111#4 → x.extractLsb' 1 3 ≠ 0b101#3 → x.extractLsb' 1 3 ≠ 0b100#3 →
      x.extractLsb' 2 2 ≠ 0b00#2 →
      x.extractLsb' 2 2 = 0b01#2 ∧ (x.extractLsb' 1 1 = 1#1 → x.extractLsb' 1 3 = 0b011#3) ∨
        x.extractLsb' 1 3 = 0b110#3 ∨ x = 0b1110#4 := by decide
  specialize htop (fieldOf w 24 4)
  simp only [fieldOf_fieldOf, Nat.reduceAdd, Nat.reduceLeDiff] at htop
  rcases htop hswi hbranch hblock hdp with ⟨h26, h25⟩ | h25 | h24
  · obtain ⟨hflag, h4⟩ := not_not.mp fun h => hsingle ⟨h26, h⟩
    exact .inl ⟨h25 (fieldOf_eq_one_of_flagOf hflag), h4⟩
  · exact .inr (.inl h25)
  · cases h4 : flagOf w 4 with
    | false => exact .inr (.inr (.inl ⟨h24, h4⟩))
    | true => exact .inr (.inr (.inr ⟨h24, h4, fun h => hcp ⟨h24, h, h4⟩⟩))

end Classes

/-! ### The two round trips, class by class -/

/-- `i` is a well-formed instruction with the word `w`. -/
def HasWord (i : Instr) (w : Word) : Prop := WellFormed i ∧ encode i = w

section SimpleClasses

variable {w : Word} {c : Cond}

/-! #### Single data transfer (R136) -/

theorem decodeWord_encodeSingle (c : Cond) (load byte p u wb : Bool) (rn rd : Reg) (off : Offset) :
    decodeWord (encodeSingle c (BitVec.ofBool load) (BitVec.ofBool byte) p u wb rn rd off) =
      if load then if byte then .ldrb c p u wb rn rd off else .ldr c p u wb rn rd off
      else if byte then .strb c p u wb rn rd off else .str c p u wb rn rd off := by
  generalize hw : encodeSingle c (BitVec.ofBool load) (BitVec.ofBool byte) p u wb rn rd off = w
  obtain ⟨h28, h26, h25, h24, h23, h22, h21, h20, h16, h12, h0⟩ := encodeSingle_eq_iff.mp hw
  rw [decodeWord_of_code h28, decodeClass_single h26 (Offset.flags h25 h0)]
  simp only [decodeSingle, flagOf_eq h24, flagOf_eq h23, flagOf_eq h22, flagOf_eq h21, flagOf_eq h20, regOf_eq h16,
    regOf_eq h12, decodeOffset_eq h25 h0]

theorem decodeSingle_hasWord (h28 : fieldOf w 28 4 = c.code) (h26 : fieldOf w 26 2 = 0b01#2)
    (h4 : ¬ (flagOf w 25 = true ∧ flagOf w 4 = true)) : HasWord (decodeSingle c w) w := by
  obtain ⟨h25, h0⟩ := decodeOffset_fields h4
  have henc : encodeSingle c (BitVec.ofBool (flagOf w 20)) (BitVec.ofBool (flagOf w 22)) (flagOf w 24) (flagOf w 23)
      (flagOf w 21) (regOf w 16) (regOf w 12) (decodeOffset w) = w :=
    encodeSingle_eq_iff.mpr ⟨h28, h26, h25, fieldOf_eq_ofBool w 24, fieldOf_eq_ofBool w 23, fieldOf_eq_ofBool w 22,
      fieldOf_eq_ofBool w 21, fieldOf_eq_ofBool w 20, rfl, rfl, h0⟩
  unfold decodeSingle
  cases h20 : flagOf w 20 <;> cases h22 : flagOf w 22 <;> rw [h20, h22] at henc <;> exact ⟨rfl, henc⟩

/-! #### Block data transfer (R137) -/

theorem decodeWord_encodeBlock (c : Cond) (load p u sb wb : Bool) (rn : Reg) (list : BitVec 16) :
    decodeWord (encodeBlock c (BitVec.ofBool load) p u sb wb rn list) =
      if load then .ldm c p u sb wb rn list else .stm c p u sb wb rn list := by
  generalize hw : encodeBlock c (BitVec.ofBool load) p u sb wb rn list = w
  obtain ⟨h28, h25, h24, h23, h22, h21, h20, h16, h0⟩ := encodeBlock_eq_iff.mp hw
  rw [decodeWord_of_code h28, decodeClass_block h25]
  simp only [decodeBlock, flagOf_eq h24, flagOf_eq h23, flagOf_eq h22, flagOf_eq h21, flagOf_eq h20, regOf_eq h16, h0]

theorem decodeBlock_hasWord (h28 : fieldOf w 28 4 = c.code) (h25 : fieldOf w 25 3 = 0b100#3) :
    HasWord (decodeBlock c w) w := by
  have henc : encodeBlock c (BitVec.ofBool (flagOf w 20)) (flagOf w 24) (flagOf w 23) (flagOf w 22) (flagOf w 21)
      (regOf w 16) (fieldOf w 0 16) = w :=
    encodeBlock_eq_iff.mpr ⟨h28, h25, fieldOf_eq_ofBool w 24, fieldOf_eq_ofBool w 23, fieldOf_eq_ofBool w 22,
      fieldOf_eq_ofBool w 21, fieldOf_eq_ofBool w 20, rfl, rfl⟩
  unfold decodeBlock
  cases h20 : flagOf w 20 <;> rw [h20] at henc <;> exact ⟨rfl, henc⟩

/-! #### Branch (R138) -/

theorem decodeWord_branchBits (c : Cond) (link : Bool) (off24 : BitVec 24) :
    decodeWord (c.code ++ 0b101#3 ++ BitVec.ofBool link ++ off24) = if link then .bl c off24 else .b c off24 := by
  generalize hw : c.code ++ 0b101#3 ++ BitVec.ofBool link ++ off24 = w
  obtain ⟨h28, h25, h24, h0⟩ := branchBits_eq_iff.mp hw
  rw [decodeWord_of_code h28, decodeClass_branch h25]
  simp only [decodeBranch, flagOf_eq h24, h0]

theorem decodeBranch_hasWord (h28 : fieldOf w 28 4 = c.code) (h25 : fieldOf w 25 3 = 0b101#3) :
    HasWord (decodeBranch c w) w := by
  have henc : c.code ++ 0b101#3 ++ BitVec.ofBool (flagOf w 24) ++ fieldOf w 0 24 = w :=
    branchBits_eq_iff.mpr ⟨h28, h25, fieldOf_eq_ofBool w 24, rfl⟩
  unfold decodeBranch
  cases h24 : flagOf w 24 <;> rw [h24] at henc <;> exact ⟨rfl, henc⟩

/-! #### Coprocessor-15 register transfer (R140) -/

theorem decodeWord_encodeCp15 (c : Cond) (load : Bool) (opc1 opc2 : BitVec 3) (crn crm : BitVec 4) (rd : Reg) :
    decodeWord (encodeCp15 c (BitVec.ofBool load) opc1 crn rd opc2 crm) =
      if load then .mrc c opc1 crn rd opc2 crm else .mcr c opc1 crn rd opc2 crm := by
  generalize hw : encodeCp15 c (BitVec.ofBool load) opc1 crn rd opc2 crm = w
  obtain ⟨h28, h24, h21, h20, h16, h12, h8, h5, h4, h0⟩ := encodeCp15_eq_iff.mp hw
  rw [decodeWord_of_code h28, decodeClass_cp15 h24 h8 (flagOf_eq (b := true) h4)]
  simp only [decodeCp15, flagOf_eq h20, h21, h16, regOf_eq h12, h5, h0]

theorem decodeCp15_hasWord (h28 : fieldOf w 28 4 = c.code) (h24 : fieldOf w 24 4 = 0b1110#4)
    (h8 : fieldOf w 8 4 = 0b1111#4) (h4 : flagOf w 4 = true) : HasWord (decodeCp15 c w) w := by
  have henc : encodeCp15 c (BitVec.ofBool (flagOf w 20)) (fieldOf w 21 3) (fieldOf w 16 4) (regOf w 12) (fieldOf w 5 3)
      (fieldOf w 0 4) = w :=
    encodeCp15_eq_iff.mpr ⟨h28, h24, rfl, fieldOf_eq_ofBool w 20, rfl, rfl, h8, rfl, fieldOf_eq_one_of_flagOf h4, rfl⟩
  unfold decodeCp15
  cases h20 : flagOf w 20 <;> rw [h20] at henc <;> exact ⟨rfl, henc⟩

/-! #### Multiply (R134) -/

theorem decodeWord_encodeMultiply (c : Cond) (acc sf : Bool) (rd rs rm : Reg) (rn : BitVec 4) :
    decodeWord (encodeMultiply c (BitVec.ofBool acc) sf rd rn rs rm) =
      if acc then .mla c sf rd rn.toFin rs rm else .mul c sf rd rn rs rm := by
  generalize hw : encodeMultiply c (BitVec.ofBool acc) sf rd rn rs rm = w
  obtain ⟨h28, h22, h21, h20, h16, h12, h8, h4, h0⟩ := encodeMultiply_eq_iff.mp hw
  rw [decodeWord_of_code h28, decodeClass_multiply h22 h4]
  simp only [decodeMultiply, flagOf_eq h21, flagOf_eq h20, regOf_eq h16, regOf_eq (r := rn.toFin) h12, h12, regOf_eq h8,
    regOf_eq h0]

theorem decodeMultiply_hasWord (h28 : fieldOf w 28 4 = c.code) (h : IsMultiplyWord w) :
    HasWord (decodeMultiply c w) w := by
  have henc : encodeMultiply c (BitVec.ofBool (flagOf w 21)) (flagOf w 20) (regOf w 16) (fieldOf w 12 4) (regOf w 8)
      (regOf w 0) = w :=
    encodeMultiply_eq_iff.mpr ⟨h28, h.1, fieldOf_eq_ofBool w 21, fieldOf_eq_ofBool w 20, rfl, rfl, rfl, h.2, rfl⟩
  unfold decodeMultiply
  cases h21 : flagOf w 21 <;> rw [h21] at henc <;> exact ⟨rfl, henc⟩

/-! #### Single data swap (R135) -/

theorem decodeWord_encodeSwap (c : Cond) (byte : Bool) (rn rd rm : Reg) :
    decodeWord (encodeSwap c (BitVec.ofBool byte) rn rd rm) = if byte then .swpb c rn rd rm else .swp c rn rd rm := by
  generalize hw : encodeSwap c (BitVec.ofBool byte) rn rd rm = w
  obtain ⟨h28, h23, h22, h20, h16, h12, h4, h0⟩ := encodeSwap_eq_iff.mp hw
  rw [decodeWord_of_code h28, decodeClass_swap h23 h20 h4]
  simp only [decodeSwap, flagOf_eq h22, regOf_eq h16, regOf_eq h12, regOf_eq h0]

theorem decodeSwap_hasWord (h28 : fieldOf w 28 4 = c.code) (h : IsSwapWord w) : HasWord (decodeSwap c w) w := by
  obtain ⟨h23, h20, h4⟩ := h
  have henc : encodeSwap c (BitVec.ofBool (flagOf w 22)) (regOf w 16) (regOf w 12) (regOf w 0) = w :=
    encodeSwap_eq_iff.mpr ⟨h28, h23, fieldOf_eq_ofBool w 22, h20, rfl, rfl, h4, rfl⟩
  unfold decodeSwap
  cases h22 : flagOf w 22 <;> rw [h22] at henc <;> exact ⟨rfl, henc⟩

/-! #### Software interrupt (R139), the undefined space (R148) and the condition NV (R147) -/

theorem decodeWord_encode_swi (c : Cond) (comment : BitVec 24) :
    decodeWord (encode (.swi c comment)) = .swi c comment := by
  obtain ⟨h28, h24, h0⟩ := encode_swi_eq_iff.mp (Eq.refl (encode (.swi c comment)))
  rw [decodeWord_of_code h28, decodeClass_swi h24, h0]

theorem decodeWord_encode_nvAny (low28 : BitVec 28) : decodeWord (encode (.nvAny low28)) = .nvAny low28 := by
  obtain ⟨h28, h0⟩ := encode_nvAny_eq_iff.mp (Eq.refl (encode (.nvAny low28)))
  rw [decodeWord_of_nv h28, h0]

theorem decodeWord_encode_undefined011x1 (c : Cond) (hi : BitVec 20) (lo : BitVec 4) :
    decodeWord (encode (.undefined011x1 c hi lo)) = .undefined011x1 c hi lo := by
  generalize hw : encode (.undefined011x1 c hi lo) = w
  obtain ⟨h28, h25, h5, h4, h0⟩ := encode_undefined011x1_eq_iff.mp hw
  rw [decodeWord_of_code h28, decodeClass_undefined (.inl ⟨h25, flagOf_eq (b := true) h4⟩), decodeUndefined, if_pos h25,
    h5, h0]

theorem decodeWord_encode_undefinedLdcStc (c : Cond) (low25 : BitVec 25) :
    decodeWord (encode (.undefinedLdcStc c low25)) = .undefinedLdcStc c low25 := by
  generalize hw : encode (.undefinedLdcStc c low25) = w
  obtain ⟨h28, h25, h0⟩ := encode_undefinedLdcStc_eq_iff.mp hw
  rw [decodeWord_of_code h28, decodeClass_undefined (.inr (.inl h25)), decodeUndefined, h25, h0]
  rfl

/-- Words with bits 27:24 = 1110 are not in the ways (a) and (b) of the undefined space. -/
theorem decodeUndefined_of_1110 (h24 : fieldOf w 24 4 = 0b1110#4) :
    decodeUndefined c w = if flagOf w 4 then
        .undefinedMrcMcrNotP15 c (fieldOf w 12 12) (fieldOf w 8 4) (fieldOf w 5 3) (fieldOf w 0 4)
      else .undefinedCdp c (fieldOf w 5 19) (fieldOf w 0 4) := by
  have h25 : fieldOf w 25 3 = 0b111#3 := fieldOf_within h24 (k := 1) (by decide)
  rw [decodeUndefined, h25]
  rfl

theorem decodeWord_encode_undefinedCdp (c : Cond) (hi : BitVec 19) (lo : BitVec 4) :
    decodeWord (encode (.undefinedCdp c hi lo)) = .undefinedCdp c hi lo := by
  generalize hw : encode (.undefinedCdp c hi lo) = w
  obtain ⟨h28, h24, h5, h4, h0⟩ := encode_undefinedCdp_eq_iff.mp hw
  have hflag : flagOf w 4 = false := flagOf_eq (b := false) h4
  rw [decodeWord_of_code h28, decodeClass_undefined (.inr (.inr (.inl ⟨h24, hflag⟩))), decodeUndefined_of_1110 h24,
    hflag, h5, h0]
  rfl

theorem decodeWord_encode_undefinedMrcMcrNotP15 (c : Cond) (hi : BitVec 12) {cpNum : BitVec 4} (mid : BitVec 3)
    (lo : BitVec 4) (hcp : cpNum ≠ 0b1111#4) :
    decodeWord (encode (.undefinedMrcMcrNotP15 c hi cpNum mid lo)) = .undefinedMrcMcrNotP15 c hi cpNum mid lo := by
  generalize hw : encode (.undefinedMrcMcrNotP15 c hi cpNum mid lo) = w
  obtain ⟨h28, h24, h12, h8, h5, h4, h0⟩ := encode_undefinedMrcMcrNotP15_eq_iff.mp hw
  have hflag : flagOf w 4 = true := flagOf_eq (b := true) h4
  rw [decodeWord_of_code h28, decodeClass_undefined (.inr (.inr (.inr ⟨h24, hflag, h8 ▸ hcp⟩))),
    decodeUndefined_of_1110 h24, hflag, h12, h8, h5, h0]
  rfl

theorem decodeUndefined_hasWord (h28 : fieldOf w 28 4 = c.code) (h : IsUndefinedWord w) :
    HasWord (decodeUndefined c w) w := by
  rcases h with ⟨h25, h4⟩ | h25 | ⟨h24, h4⟩ | ⟨h24, h4, hcp⟩
  · rw [decodeUndefined, if_pos h25]
    exact ⟨rfl, encode_undefined011x1_eq_iff.mpr ⟨h28, h25, rfl, fieldOf_eq_one_of_flagOf h4, rfl⟩⟩
  · rw [decodeUndefined, if_neg (by rw [h25]; decide), if_pos h25]
    exact ⟨rfl, encode_undefinedLdcStc_eq_iff.mpr ⟨h28, h25, rfl⟩⟩
  · rw [decodeUndefined_of_1110 h24, h4]
    exact ⟨rfl, encode_undefinedCdp_eq_iff.mpr ⟨h28, h24, rfl, fieldOf_eq_zero_of_flagOf h4, rfl⟩⟩
  · rw [decodeUndefined_of_1110 h24, h4]
    exact ⟨bne_iff_ne.mpr hcp, encode_undefinedMrcMcrNotP15_eq_iff.mpr
      ⟨h28, h24, rfl, rfl, rfl, fieldOf_eq_one_of_flagOf h4, rfl⟩⟩

end SimpleClasses

/-! #### Data processing (R132) -/

section DataProcessing

open Machine

variable {w : Word} {c : Cond}

/-- The opcode of a row that writes Rd (R195). -/
def Machine.DpOp.code : DpOp → BitVec 4
  | .and => 0b0000#4
  | .eor => 0b0001#4
  | .sub => 0b0010#4
  | .rsb => 0b0011#4
  | .add => 0b0100#4
  | .adc => 0b0101#4
  | .sbc => 0b0110#4
  | .rsc => 0b0111#4
  | .orr => 0b1100#4
  | .mov => 0b1101#4
  | .bic => 0b1110#4
  | .mvn => 0b1111#4

/-- The opcode of a row that writes flags only (R195). -/
def Machine.CmpOp.code : CmpOp → BitVec 4
  | .tst => 0b1000#4
  | .teq => 0b1001#4
  | .cmp => 0b1010#4
  | .cmn => 0b1011#4

theorem encode_dpInstr (o : DpOp) (c : Cond) (sf : Bool) (rn rd : Reg) (op2 : Operand2) :
    encode (o.instr c sf rn rd op2) = encodeDp c o.code sf (Reg.bits rn) (Reg.bits rd) op2 := by
  cases o <;> rfl

theorem encode_cmpInstr (o : CmpOp) (c : Cond) (rn rd : Reg) (op2 : Operand2) :
    encode (o.instr c rn rd op2) = encodeDp c o.code true (Reg.bits rn) (Reg.bits rd) op2 := by
  cases o <;> rfl

theorem check_cmpInstr (o : CmpOp) (c : Cond) (rn rd : Reg) (op2 : Operand2) : (o.instr c rn rd op2).check = true := by
  cases o <;> rfl

/-- AND and EOR, opcodes 0 and 1, are the rows whose words could be multiply words. -/
theorem check_dpInstr_iff (o : DpOp) (c : Cond) (sf : Bool) (rn rd : Reg) (op2 : Operand2) :
    (o.instr c sf rn rd op2).check = true ↔ (o.code.extractLsb' 1 3 = 0b000#3 → op2.notMultiply = true) := by
  cases o <;> simp [DpOp.instr, Instr.check, DpOp.code]

/-- The opcodes of PSR transfer are those of the rows that write flags only, with S = 0 (R133). -/
theorem opcode_cases (op : BitVec 4) :
    (∃ o : DpOp, op = o.code) ∨ op.extractLsb' 2 2 = 0b10#2 ∧ ∃ o : CmpOp, op = o.code := by
  have hall : ∀ op : BitVec 4, (∃ o ∈ [DpOp.and, .eor, .sub, .rsb, .add, .adc, .sbc, .rsc, .orr, .mov, .bic, .mvn],
      op = o.code) ∨ op.extractLsb' 2 2 = 0b10#2 ∧ ∃ o ∈ [CmpOp.tst, .teq, .cmp, .cmn], op = o.code := by
    decide
  exact (hall op).imp (fun ⟨o, _, h⟩ => ⟨o, h⟩) fun ⟨h10, o, _, h⟩ => ⟨h10, o, h⟩

theorem decodeDataProcessing_dp {o : DpOp} (h : fieldOf w 21 4 = o.code) :
    decodeDataProcessing c w = o.instr c (flagOf w 20) (regOf w 16) (regOf w 12) (decodeOperand2 w) := by
  unfold decodeDataProcessing
  rw [h]
  cases o <;> rfl

theorem decodeDataProcessing_cmp {o : CmpOp} (h : fieldOf w 21 4 = o.code) (h20 : flagOf w 20 = true) :
    decodeDataProcessing c w = o.instr c (regOf w 16) (regOf w 12) (decodeOperand2 w) := by
  unfold decodeDataProcessing
  rw [h, h20]
  cases o <;> rfl

theorem decodeDataProcessing_psr {o : CmpOp} (h : fieldOf w 21 4 = o.code) (h20 : flagOf w 20 = false) :
    decodeDataProcessing c w = decodePsr c w := by
  unfold decodeDataProcessing
  rw [h, h20]
  cases o <;> rfl

/-- A word of the class with an opcode other than those of PSR transfer, or with S = 1, is no swap. -/
theorem not_isSwapWord {op : BitVec 4} (h21 : fieldOf w 21 4 = op)
    (h : op.extractLsb' 2 2 ≠ 0b10#2 ∨ flagOf w 20 = true) : ¬ IsSwapWord w := by
  rintro ⟨h23, h20, -⟩
  rcases h with h | h
  · have h23' : fieldOf w 23 2 = 0b10#2 := fieldOf_within h23 (k := 0) (by decide)
    exact h ((fieldOf_within h21 (k := 2) (by decide)).symm.trans h23')
  · have h20' : fieldOf w 20 1 = 0#1 := fieldOf_within h20 (k := 0) (by decide)
    exact absurd ((fieldOf_eq_one_of_flagOf h).symm.trans h20') (by decide)

theorem isMultiplyWord_iff (h26 : fieldOf w 26 2 = 0b00#2) : IsMultiplyWord w ↔
    (fieldOf w 21 4).extractLsb' 1 3 = 0b000#3 ∧ (decodeOperand2 w).notMultiply = false := by
  have h22 : fieldOf w 22 6 = 0b000000#6 ↔ fieldOf w 25 1 = 0#1 ∧ fieldOf w 22 3 = 0b000#3 := by
    simp [fieldOf_succ_eq_iff] at h26 ⊢
    simp [h26]
  rw [IsMultiplyWord, notMultiply_decodeOperand2, fieldOf_fieldOf (by decide), h22]
  tauto

theorem decodeWord_of_dpInstr {o : DpOp} {sf : Bool} {rn rd : Reg} {op2 : Operand2}
    (h : HasWord (o.instr c sf rn rd op2) w) : decodeWord w = o.instr c sf rn rd op2 := by
  obtain ⟨hwf, hw⟩ := h
  rw [encode_dpInstr] at hw
  obtain ⟨h28, h26, h25, h21, h20, h16, h12, h0⟩ := encodeDp_eq_iff.mp hw
  have hop2 := decodeOperand2_eq h25 h0
  have hswap : ¬ IsSwapWord w := not_isSwapWord h21 (.inl (by cases o <;> decide))
  have hmul : ¬ IsMultiplyWord w := by
    rw [isMultiplyWord_iff h26, h21, hop2]
    rintro ⟨hop, hnot⟩
    simp [(check_dpInstr_iff ..).mp hwf hop] at hnot
  rw [decodeWord_of_code h28, decodeClass_dataProcessing h26 hswap hmul, decodeDataProcessing_dp h21, flagOf_eq h20,
    regOf_eq h16, regOf_eq h12, hop2]

theorem decodeWord_encode_cmpInstr (o : CmpOp) (c : Cond) (rn rd : Reg) (op2 : Operand2) :
    decodeWord (encode (o.instr c rn rd op2)) = o.instr c rn rd op2 := by
  generalize hw : encode (o.instr c rn rd op2) = w
  rw [encode_cmpInstr] at hw
  obtain ⟨h28, h26, h25, h21, h20, h16, h12, h0⟩ := encodeDp_eq_iff.mp hw
  have hflag := flagOf_eq h20
  have hmul : ¬ IsMultiplyWord w := by
    rw [isMultiplyWord_iff h26, h21]
    rintro ⟨hop, -⟩
    revert hop
    cases o <;> decide
  rw [decodeWord_of_code h28, decodeClass_dataProcessing h26 (not_isSwapWord h21 (.inr hflag)) hmul,
    decodeDataProcessing_cmp h21 hflag, regOf_eq h16, regOf_eq h12, decodeOperand2_eq h25 h0]

end DataProcessing

/-! #### PSR transfer (R133, R149, R218) -/

section PsrTransfer

variable {w : Word} {c : Cond}

/-- The fixed bits of the PSR-transfer space: opcode 8 to 11 with S = 0. -/
structure IsPsrWord (w : Word) : Prop where
  class00 : fieldOf w 26 2 = 0b00#2
  opcode10 : fieldOf w 23 2 = 0b10#2
  flagsKept : fieldOf w 20 1 = 0#1

theorem IsPsrWord.not_isMultiplyWord (h : IsPsrWord w) : ¬ IsMultiplyWord w := by
  rintro ⟨h22, -⟩
  have h23 : fieldOf w 23 2 = 0b00#2 := fieldOf_within h22 (k := 1) (by decide)
  exact absurd (h.opcode10.symm.trans h23) (by decide)

theorem decodeDataProcessing_of_isPsrWord (h : IsPsrWord w) : decodeDataProcessing c w = decodePsr c w := by
  have h23 : (fieldOf w 21 4).extractLsb' 2 2 = 0b10#2 := (fieldOf_fieldOf (by decide)).trans h.opcode10
  rcases opcode_cases (fieldOf w 21 4) with ⟨o, ho⟩ | ⟨-, o, ho⟩
  · rw [ho] at h23
    exact absurd h23 (by cases o <;> decide)
  · exact decodeDataProcessing_psr ho (flagOf_eq (b := false) h.flagsKept)

theorem decodeWord_of_isPsrWord (h28 : fieldOf w 28 4 = c.code) (h : IsPsrWord w) (hswap : ¬ IsSwapWord w) :
    decodeWord w = decodePsr c w := by
  rw [decodeWord_of_code h28, decodeClass_dataProcessing h.class00 hswap h.not_isMultiplyWord,
    decodeDataProcessing_of_isPsrWord h]

/-- Bits 27:23 and 21:20 of the three formats of R133 are those of the space. -/
theorem isPsrWord_of_fields {imm s : BitVec 1} (h23 : fieldOf w 23 5 = 0b00#2 ++ imm ++ 0b10#2)
    (h20 : fieldOf w 20 2 = s ++ 0#1) : IsPsrWord w := by
  obtain ⟨⟨h26, -⟩, h23⟩ := (append_eq_fieldOf_iff (append_eq_fieldOf_iff eq_comm)).mp h23.symm
  exact ⟨h26, h23, ((append_eq_fieldOf_iff Iff.rfl).mp h20.symm).2⟩

theorem mrsSelector_iff :
    fieldOf w 16 6 = 0b001111#6 ↔ fieldOf w 20 2 = 0b00#2 ∧ fieldOf w 16 4 = 0b1111#4 := by
  simp [fieldOf_succ_eq_iff, and_assoc]

theorem msrRegSelector_iff {f19 : BitVec 4} : 0b10#2 ++ f19 ++ 0b1111#4 ++ 0#8 = fieldOf w 4 18 ↔
    fieldOf w 20 2 = 0b10#2 ∧ fieldOf w 16 4 = f19 ∧ fieldOf w 12 4 = 0b1111#4 ∧ fieldOf w 4 8 = 0#8 := by
  simp only [← and_assoc]
  repeat' with_reducible apply append_eq_fieldOf_iff
  exact eq_comm

theorem msrImmSelector_iff : fieldOf w 12 10 = 0b1010001111#10 ↔
    fieldOf w 20 2 = 0b10#2 ∧ fieldOf w 16 4 = 0b1000#4 ∧ fieldOf w 12 4 = 0b1111#4 := by
  simp [fieldOf_succ_eq_iff, and_assoc]

theorem decodeWord_mrsBits (c : Cond) (spsr : Bool) (rd : Reg) :
    decodeWord (c.code ++ 0b00010#5 ++ BitVec.ofBool spsr ++ 0b00#2 ++ 0b1111#4 ++ Reg.bits rd ++ 0#12) =
      if spsr then .mrsSpsr c rd else .mrsCpsr c rd := by
  generalize hw : c.code ++ 0b00010#5 ++ BitVec.ofBool spsr ++ 0b00#2 ++ 0b1111#4 ++ Reg.bits rd ++ 0#12 = w
  obtain ⟨h28, h23, h22, h20, h16, h12, h0⟩ := mrsBits_eq_iff.mp hw
  have hswap : ¬ IsSwapWord w := by
    rintro ⟨-, -, h4⟩
    exact absurd (h4.symm.trans (fieldOf_within h0 (k := 4) (by decide))) (by decide)
  rw [decodeWord_of_isPsrWord h28 (isPsrWord_of_fields (imm := 0#1) (s := 0#1) h23 h20) hswap, decodePsr,
    if_pos ⟨h23, mrsSelector_iff.mpr ⟨h20, h16⟩, h0⟩, flagOf_eq h22, regOf_eq h12]

theorem not_isSwapWord_of_msr (h20 : fieldOf w 20 2 = 0b10#2) : ¬ IsSwapWord w := by
  rintro ⟨-, h, -⟩
  rw [h20] at h
  exact absurd h (by decide)

/-- MSR from a register: `1001` for the whole register, `1000` for its flags (R133). -/
theorem decodeWord_msrRegBits (c : Cond) (spsr whole : Bool) (rm : Reg) :
    decodeWord (c.code ++ 0b00010#5 ++ BitVec.ofBool spsr ++ 0b10#2 ++ (if whole then 0b1001#4 else 0b1000#4) ++
        0b1111#4 ++ 0#8 ++ Reg.bits rm) =
      if whole then if spsr then .msrSpsr c rm else .msrCpsr c rm
      else if spsr then .msrSpsrFlgReg c rm else .msrCpsrFlgReg c rm := by
  generalize hw : c.code ++ 0b00010#5 ++ BitVec.ofBool spsr ++ 0b10#2 ++ (if whole then 0b1001#4 else 0b1000#4) ++
    0b1111#4 ++ 0#8 ++ Reg.bits rm = w
  obtain ⟨h28, h23, h22, h20, h16, h12, h4, h0⟩ := msrRegBits_eq_iff.mp hw
  have h16' : fieldOf w 16 6 = 0b10#2 ++ (if whole then 0b1001#4 else 0b1000#4) :=
    ((append_eq_fieldOf_iff eq_comm).mpr ⟨h20, h16⟩).symm
  rw [decodeWord_of_isPsrWord h28 (isPsrWord_of_fields (imm := 0#1) (s := 1#1) h23 h20) (not_isSwapWord_of_msr h20),
    decodePsr, h23, h16', ← msrRegSelector_iff.mpr ⟨h20, h16, h12, h4⟩, flagOf_eq h22, regOf_eq h0]
  cases whole <;> simp

theorem decodeWord_msrImmBits (c : Cond) (spsr : Bool) (rot : BitVec 4) (imm8 : BitVec 8) :
    decodeWord (c.code ++ 0b00110#5 ++ BitVec.ofBool spsr ++ 0b10#2 ++ 0b1000#4 ++ 0b1111#4 ++ rot ++ imm8) =
      if spsr then .msrSpsrFlgImm c rot imm8 else .msrCpsrFlgImm c rot imm8 := by
  generalize hw : c.code ++ 0b00110#5 ++ BitVec.ofBool spsr ++ 0b10#2 ++ 0b1000#4 ++ 0b1111#4 ++ rot ++ imm8 = w
  obtain ⟨h28, h23, h22, h20, h16, h12, h8, h0⟩ := msrImmBits_eq_iff.mp hw
  rw [decodeWord_of_isPsrWord h28 (isPsrWord_of_fields (imm := 1#1) (s := 1#1) h23 h20) (not_isSwapWord_of_msr h20),
    decodePsr, h23, msrImmSelector_iff.mpr ⟨h20, h16, h12⟩, flagOf_eq h22, h8, h0]
  simp

/-! The patterns of R218 and R150 (a), as the check of `uppTrap` and as the conditions of the decoder. -/

theorem isMrsPattern_iff (h : IsPsrWord w) :
    isMrsPattern (flagOf w 25) (fieldOf w 21 2) (fieldOf w 16 4) (fieldOf w 0 12) = true ↔
      fieldOf w 23 5 = 0b00010#5 ∧ fieldOf w 16 6 = 0b001111#6 ∧ fieldOf w 0 12 = 0#12 := by
  obtain ⟨h26, h23, h20⟩ := h
  simp only [isMrsPattern, fieldOf_fieldOf, Nat.reduceAdd, Nat.reduceLeDiff]
  simp [fieldOf_succ_eq_iff] at h26 h23 h20 ⊢
  simp [h26, h23, h20, and_assoc]

theorem isMsrRegPattern_iff (h : IsPsrWord w) :
    isMsrRegPattern (flagOf w 25) (fieldOf w 21 2) (fieldOf w 16 4) (fieldOf w 12 4) (fieldOf w 0 12) = true ↔
      fieldOf w 23 5 = 0b00010#5 ∧ fieldOf w 4 18 = 0b101001111100000000#18 ∨
        fieldOf w 23 5 = 0b00010#5 ∧ fieldOf w 4 18 = 0b101000111100000000#18 := by
  obtain ⟨h26, h23, h20⟩ := h
  simp only [isMsrRegPattern, fieldOf_fieldOf, Nat.reduceAdd, Nat.reduceLeDiff]
  simp [fieldOf_succ_eq_iff] at h26 h23 h20 ⊢
  simp [h26, h23, h20, and_assoc]
  tauto

theorem isMsrImmPattern_iff (h : IsPsrWord w) :
    isMsrImmPattern (flagOf w 25) (fieldOf w 21 2) (fieldOf w 16 4) (fieldOf w 12 4) = true ↔
      fieldOf w 23 5 = 0b00110#5 ∧ fieldOf w 12 10 = 0b1010001111#10 := by
  obtain ⟨h26, h23, h20⟩ := h
  simp only [isMsrImmPattern, fieldOf_fieldOf, Nat.reduceAdd, Nat.reduceLeDiff]
  simp [fieldOf_succ_eq_iff] at h26 h23 h20 ⊢
  simp [h26, h23, h20, and_assoc]

theorem isBits4And7Pattern_iff (w : Word) : isBits4And7Pattern (flagOf w 25) (fieldOf w 0 12) = true ↔
    fieldOf w 25 1 = 0#1 ∧ fieldOf w 4 1 = 1#1 ∧ fieldOf w 7 1 = 1#1 := by
  simp only [isBits4And7Pattern, fieldOf_fieldOf, Nat.reduceAdd, Nat.reduceLeDiff]
  simp [fieldOf_succ_eq_iff, and_assoc]

theorem isSwapPattern_iff (h : IsPsrWord w) (h25 : fieldOf w 25 1 = 0#1) (h7 : fieldOf w 7 1 = 1#1)
    (h4 : fieldOf w 4 1 = 1#1) :
    isSwapPattern (fieldOf w 21 2) (fieldOf w 8 4) (fieldOf w 5 2) = true ↔ IsSwapWord w := by
  obtain ⟨h26, h23, h20⟩ := h
  simp only [isSwapPattern, IsSwapWord, fieldOf_fieldOf, Nat.reduceAdd, Nat.reduceLeDiff]
  simp [fieldOf_succ_eq_iff] at h26 h23 h20 h25 h7 h4 ⊢
  simp [h26, h23, h20, h25, h7, h4, and_assoc]

/-- The check of an unrecognised pattern (R149): none of the four patterns of R218, nor of R150 (a). -/
theorem check_uppTrap_iff (h : IsPsrWord w) :
    (Instr.uppTrap c (flagOf w 25) (fieldOf w 21 2) (fieldOf w 16 4) (fieldOf w 12 4) (fieldOf w 0 12)).check = true ↔
      ¬ (fieldOf w 23 5 = 0b00010#5 ∧ fieldOf w 16 6 = 0b001111#6 ∧ fieldOf w 0 12 = 0#12) ∧
      ¬ (fieldOf w 23 5 = 0b00010#5 ∧ fieldOf w 4 18 = 0b101001111100000000#18 ∨
        fieldOf w 23 5 = 0b00010#5 ∧ fieldOf w 4 18 = 0b101000111100000000#18) ∧
      ¬ (fieldOf w 23 5 = 0b00110#5 ∧ fieldOf w 12 10 = 0b1010001111#10) ∧
      ¬ (fieldOf w 25 1 = 0#1 ∧ fieldOf w 4 1 = 1#1 ∧ fieldOf w 7 1 = 1#1) := by
  rw [← isMrsPattern_iff h, ← isMsrRegPattern_iff h, ← isMsrImmPattern_iff h, ← isBits4And7Pattern_iff]
  simp [Instr.check, and_assoc]

theorem decodeWord_of_uppTrap {imm : Bool} {opLow : BitVec 2} {f19 f15 : BitVec 4} {f11 : BitVec 12}
    (h : HasWord (.uppTrap c imm opLow f19 f15 f11) w) : decodeWord w = .uppTrap c imm opLow f19 f15 f11 := by
  obtain ⟨hwf, hw⟩ := h
  obtain ⟨h28, h26, h25, h23, rfl, h20, rfl, rfl, rfl⟩ := encode_uppTrap_eq_iff.mp hw
  obtain rfl := flagOf_eq h25
  have hpsr : IsPsrWord w := ⟨h26, h23, h20⟩
  obtain ⟨hmrs, hmsr, himm, hbits⟩ := (check_uppTrap_iff hpsr).mp hwf
  obtain ⟨hwhole, hflg⟩ := not_or.mp hmsr
  have hswap : ¬ IsSwapWord w := by
    rintro ⟨h23', -, h4⟩
    refine hbits ?_
    simp [fieldOf_succ_eq_iff] at h23' h4 ⊢
    simp [h23', h4]
  rw [decodeWord_of_isPsrWord h28 hpsr hswap, decodePsr, if_neg hmrs, if_neg hwhole, if_neg hflg, if_neg himm,
    if_neg hbits]

theorem decodeWord_of_uppBits4And7 {opLow f5 : BitVec 2} {f19 f15 f8 f0 : BitVec 4}
    (h : HasWord (.uppBits4And7 c opLow f19 f15 f8 f5 f0) w) :
    decodeWord w = .uppBits4And7 c opLow f19 f15 f8 f5 f0 := by
  obtain ⟨hwf, hw⟩ := h
  obtain ⟨h28, h26, h25, h23, rfl, h20, rfl, rfl, rfl, h7, rfl, h4, rfl⟩ := encode_uppBits4And7_eq_iff.mp hw
  have hpsr : IsPsrWord w := ⟨h26, h23, h20⟩
  have hswap : ¬ IsSwapWord w := by
    rw [← isSwapPattern_iff hpsr h25 h7 h4]
    simpa [WellFormed, Instr.check] using hwf
  have hmrs : fieldOf w 0 12 ≠ 0#12 := fun h0 =>
    absurd (h4.symm.trans (fieldOf_within h0 (k := 4) (by decide))) (by decide)
  have hmsr (f19 : BitVec 4) : 0b10#2 ++ f19 ++ 0b1111#4 ++ 0#8 ≠ fieldOf w 4 18 := by
    intro h
    obtain ⟨-, -, -, h8⟩ := msrRegSelector_iff.mp h
    exact absurd (h4.symm.trans (fieldOf_within h8 (k := 0) (by decide))) (by decide)
  have himm : fieldOf w 23 5 ≠ 0b00110#5 := fun h =>
    absurd (h25.symm.trans (fieldOf_within h (k := 2) (by decide))) (by decide)
  rw [decodeWord_of_isPsrWord h28 hpsr hswap, decodePsr, if_neg fun h => hmrs h.2.2,
    if_neg fun h => hmsr 0b1001#4 h.2.symm, if_neg fun h => hmsr 0b1000#4 h.2.symm, if_neg fun h => himm h.1,
    if_pos ⟨h25, h4, h7⟩]

theorem mrs_hasWord (h28 : fieldOf w 28 4 = c.code) (h23 : fieldOf w 23 5 = 0b00010#5)
    (h16 : fieldOf w 16 6 = 0b001111#6) (h0 : fieldOf w 0 12 = 0#12) :
    HasWord (if flagOf w 22 then .mrsSpsr c (regOf w 12) else .mrsCpsr c (regOf w 12)) w := by
  obtain ⟨h20, h16⟩ := mrsSelector_iff.mp h16
  have henc : c.code ++ 0b00010#5 ++ BitVec.ofBool (flagOf w 22) ++ 0b00#2 ++ 0b1111#4 ++ Reg.bits (regOf w 12) ++
      0#12 = w := mrsBits_eq_iff.mpr ⟨h28, h23, fieldOf_eq_ofBool w 22, h20, h16, rfl, h0⟩
  cases h22 : flagOf w 22 <;> rw [h22] at henc <;> exact ⟨rfl, henc⟩

theorem msrRegBits_of_selector (h28 : fieldOf w 28 4 = c.code) {f19 : BitVec 4} (h23 : fieldOf w 23 5 = 0b00010#5)
    (h4 : 0b10#2 ++ f19 ++ 0b1111#4 ++ 0#8 = fieldOf w 4 18) :
    c.code ++ 0b00010#5 ++ BitVec.ofBool (flagOf w 22) ++ 0b10#2 ++ f19 ++ 0b1111#4 ++ 0#8 ++ Reg.bits (regOf w 0) =
      w := by
  obtain ⟨h20, h16, h12, h4⟩ := msrRegSelector_iff.mp h4
  exact msrRegBits_eq_iff.mpr ⟨h28, h23, fieldOf_eq_ofBool w 22, h20, h16, h12, h4, rfl⟩

theorem msrWhole_hasWord (h28 : fieldOf w 28 4 = c.code) (h23 : fieldOf w 23 5 = 0b00010#5)
    (h4 : fieldOf w 4 18 = 0b101001111100000000#18) :
    HasWord (if flagOf w 22 then .msrSpsr c (regOf w 0) else .msrCpsr c (regOf w 0)) w := by
  have henc := msrRegBits_of_selector h28 (f19 := 0b1001#4) h23 h4.symm
  cases h22 : flagOf w 22 <;> rw [h22] at henc <;> exact ⟨rfl, henc⟩

theorem msrFlgReg_hasWord (h28 : fieldOf w 28 4 = c.code) (h23 : fieldOf w 23 5 = 0b00010#5)
    (h4 : fieldOf w 4 18 = 0b101000111100000000#18) :
    HasWord (if flagOf w 22 then .msrSpsrFlgReg c (regOf w 0) else .msrCpsrFlgReg c (regOf w 0)) w := by
  have henc := msrRegBits_of_selector h28 (f19 := 0b1000#4) h23 h4.symm
  cases h22 : flagOf w 22 <;> rw [h22] at henc <;> exact ⟨rfl, henc⟩

theorem msrFlgImm_hasWord (h28 : fieldOf w 28 4 = c.code) (h23 : fieldOf w 23 5 = 0b00110#5)
    (h12 : fieldOf w 12 10 = 0b1010001111#10) :
    HasWord (if flagOf w 22 then .msrSpsrFlgImm c (fieldOf w 8 4) (fieldOf w 0 8)
      else .msrCpsrFlgImm c (fieldOf w 8 4) (fieldOf w 0 8)) w := by
  obtain ⟨h20, h16, h12⟩ := msrImmSelector_iff.mp h12
  have henc : c.code ++ 0b00110#5 ++ BitVec.ofBool (flagOf w 22) ++ 0b10#2 ++ 0b1000#4 ++ 0b1111#4 ++ fieldOf w 8 4 ++
      fieldOf w 0 8 = w :=
    msrImmBits_eq_iff.mpr ⟨h28, h23, fieldOf_eq_ofBool w 22, h20, h16, h12, rfl, rfl⟩
  cases h22 : flagOf w 22 <;> rw [h22] at henc <;> exact ⟨rfl, henc⟩

theorem decodePsr_hasWord (h28 : fieldOf w 28 4 = c.code) (h : IsPsrWord w) (hswap : ¬ IsSwapWord w) :
    HasWord (decodePsr c w) w := by
  unfold decodePsr
  by_cases hmrs : fieldOf w 23 5 = 0b00010#5 ∧ fieldOf w 16 6 = 0b001111#6 ∧ fieldOf w 0 12 = 0#12
  · rw [if_pos hmrs]
    obtain ⟨h23, h16, h0⟩ := hmrs
    exact mrs_hasWord h28 h23 h16 h0
  rw [if_neg hmrs]
  by_cases hwhole : fieldOf w 23 5 = 0b00010#5 ∧ fieldOf w 4 18 = 0b101001111100000000#18
  · rw [if_pos hwhole]
    exact msrWhole_hasWord h28 hwhole.1 hwhole.2
  rw [if_neg hwhole]
  by_cases hflg : fieldOf w 23 5 = 0b00010#5 ∧ fieldOf w 4 18 = 0b101000111100000000#18
  · rw [if_pos hflg]
    exact msrFlgReg_hasWord h28 hflg.1 hflg.2
  rw [if_neg hflg]
  by_cases himm : fieldOf w 23 5 = 0b00110#5 ∧ fieldOf w 12 10 = 0b1010001111#10
  · rw [if_pos himm]
    exact msrFlgImm_hasWord h28 himm.1 himm.2
  rw [if_neg himm]
  obtain ⟨h26, h23, h20⟩ := h
  split_ifs with hbits
  · obtain ⟨h25, h4, h7⟩ := hbits
    refine ⟨?_, encode_uppBits4And7_eq_iff.mpr ⟨h28, h26, h25, h23, rfl, h20, rfl, rfl, rfl, h7, rfl, h4, rfl⟩⟩
    have hpattern := mt (isSwapPattern_iff ⟨h26, h23, h20⟩ h25 h7 h4).mp hswap
    simpa [WellFormed, Instr.check] using hpattern
  · exact ⟨(check_uppTrap_iff ⟨h26, h23, h20⟩).mpr ⟨hmrs, not_or.mpr ⟨hwhole, hflg⟩, himm, hbits⟩,
      encode_uppTrap_eq_iff.mpr ⟨h28, h26, fieldOf_eq_ofBool w 25, h23, rfl, h20, rfl, rfl, rfl⟩⟩

end PsrTransfer

/-! ### Every word is one instruction's, and every well-formed instruction is its word's -/

section

open Machine

variable {w : Word} {c : Cond}

theorem decodeDataProcessing_hasWord (h28 : fieldOf w 28 4 = c.code) (h26 : fieldOf w 26 2 = 0b00#2)
    (hswap : ¬ IsSwapWord w) (hmul : ¬ IsMultiplyWord w) : HasWord (decodeDataProcessing c w) w := by
  obtain ⟨h25, h0⟩ := decodeOperand2_fields w
  rcases opcode_cases (fieldOf w 21 4) with ⟨o, ho⟩ | ⟨h10, o, ho⟩
  · rw [decodeDataProcessing_dp ho]
    refine ⟨(check_dpInstr_iff ..).mpr fun hop => ?_, ?_⟩
    · rw [isMultiplyWord_iff h26, ho] at hmul
      exact Bool.eq_true_of_not_eq_false fun hnot => hmul ⟨hop, hnot⟩
    · rw [encode_dpInstr]
      exact encodeDp_eq_iff.mpr ⟨h28, h26, h25, ho, fieldOf_eq_ofBool w 20, rfl, rfl, h0⟩
  · cases h20 : flagOf w 20 with
    | true =>
      rw [decodeDataProcessing_cmp ho h20]
      refine ⟨check_cmpInstr .., ?_⟩
      rw [encode_cmpInstr]
      exact encodeDp_eq_iff.mpr ⟨h28, h26, h25, ho, fieldOf_eq_one_of_flagOf h20, rfl, rfl, h0⟩
    | false =>
      rw [decodeDataProcessing_psr ho h20]
      rw [fieldOf_fieldOf (by decide)] at h10
      exact decodePsr_hasWord h28 ⟨h26, h10, fieldOf_eq_zero_of_flagOf h20⟩ hswap

theorem decodeClass_hasWord (h28 : fieldOf w 28 4 = c.code) : HasWord (decodeClass c w) w := by
  unfold decodeClass
  split_ifs with hswi hcp hbranch hblock hsingle hswap hmul hdp
  · exact ⟨rfl, encode_swi_eq_iff.mpr ⟨h28, hswi, rfl⟩⟩
  · obtain ⟨h24, h8, h4⟩ := hcp
    exact decodeCp15_hasWord h28 h24 h8 h4
  · exact decodeBranch_hasWord h28 hbranch
  · exact decodeBlock_hasWord h28 hblock
  · exact decodeSingle_hasWord h28 hsingle.1 hsingle.2
  · exact decodeSwap_hasWord h28 hswap
  · exact decodeMultiply_hasWord h28 hmul
  · exact decodeDataProcessing_hasWord h28 hdp hswap hmul
  · exact decodeUndefined_hasWord h28 (isUndefinedWord_of_no_class hswi hcp hbranch hblock hsingle hdp)

theorem decodeWord_hasWord (w : Word) : HasWord (decodeWord w) w := by
  unfold decodeWord
  cases hc : Cond.ofCode (fieldOf w 28 4) with
  | none => exact ⟨rfl, encode_nvAny_eq_iff.mpr ⟨Cond.ofCode_eq_none hc, rfl⟩⟩
  | some c => exact decodeClass_hasWord (Cond.code_of_ofCode hc).symm

/-- Every instruction's word has the fixed bits of its row (spec/opcode_table.json). -/
theorem encode_tableRow (i : Instr) : encode i &&& i.tableRow.1 = i.tableRow.2 := by
  cases i with
  | and => exact Laws.TableRow.and ..
  | eor => exact Laws.TableRow.eor ..
  | sub => exact Laws.TableRow.sub ..
  | rsb => exact Laws.TableRow.rsb ..
  | add => exact Laws.TableRow.add ..
  | adc => exact Laws.TableRow.adc ..
  | sbc => exact Laws.TableRow.sbc ..
  | rsc => exact Laws.TableRow.rsc ..
  | tst => exact Laws.TableRow.tst ..
  | teq => exact Laws.TableRow.teq ..
  | cmp => exact Laws.TableRow.cmp ..
  | cmn => exact Laws.TableRow.cmn ..
  | orr => exact Laws.TableRow.orr ..
  | mov => exact Laws.TableRow.mov ..
  | bic => exact Laws.TableRow.bic ..
  | mvn => exact Laws.TableRow.mvn ..
  | mrsCpsr => exact Laws.TableRow.mrsCpsr ..
  | mrsSpsr => exact Laws.TableRow.mrsSpsr ..
  | msrCpsr => exact Laws.TableRow.msrCpsr ..
  | msrCpsrFlgReg => exact Laws.TableRow.msrCpsrFlgReg ..
  | msrCpsrFlgImm => exact Laws.TableRow.msrCpsrFlgImm ..
  | msrSpsr => exact Laws.TableRow.msrSpsr ..
  | msrSpsrFlgReg => exact Laws.TableRow.msrSpsrFlgReg ..
  | msrSpsrFlgImm => exact Laws.TableRow.msrSpsrFlgImm ..
  | mul => exact Laws.TableRow.mul ..
  | mla => exact Laws.TableRow.mla ..
  | swp => exact Laws.TableRow.swp ..
  | swpb => exact Laws.TableRow.swpb ..
  | ldr => exact Laws.TableRow.ldr ..
  | ldrb => exact Laws.TableRow.ldrb ..
  | str => exact Laws.TableRow.str ..
  | strb => exact Laws.TableRow.strb ..
  | ldm => exact Laws.TableRow.ldm ..
  | stm => exact Laws.TableRow.stm ..
  | b => exact Laws.TableRow.b ..
  | bl => exact Laws.TableRow.bl ..
  | swi => exact Laws.TableRow.swi ..
  | mrc => exact Laws.TableRow.mrc ..
  | mcr => exact Laws.TableRow.mcr ..
  | undefined011x1 => exact Laws.TableRow.undefined011x1 ..
  | undefinedLdcStc => exact Laws.TableRow.undefinedLdcStc ..
  | undefinedCdp => exact Laws.TableRow.undefinedCdp ..
  | undefinedMrcMcrNotP15 => exact Laws.TableRow.undefinedMrcMcrNotP15 ..
  | uppTrap => exact Laws.TableRow.uppTrap ..
  | uppBits4And7 => exact Laws.TableRow.uppBits4And7 ..
  | nvAny => exact Laws.TableRow.nvAny ..

theorem decodeWord_encode {i : Instr} (h : WellFormed i) : decodeWord (encode i) = i := by
  cases i with
  | and => exact decodeWord_of_dpInstr (o := .and) ⟨h, rfl⟩
  | eor => exact decodeWord_of_dpInstr (o := .eor) ⟨h, rfl⟩
  | sub => exact decodeWord_of_dpInstr (o := .sub) ⟨h, rfl⟩
  | rsb => exact decodeWord_of_dpInstr (o := .rsb) ⟨h, rfl⟩
  | add => exact decodeWord_of_dpInstr (o := .add) ⟨h, rfl⟩
  | adc => exact decodeWord_of_dpInstr (o := .adc) ⟨h, rfl⟩
  | sbc => exact decodeWord_of_dpInstr (o := .sbc) ⟨h, rfl⟩
  | rsc => exact decodeWord_of_dpInstr (o := .rsc) ⟨h, rfl⟩
  | tst c rn sbz op2 => exact decodeWord_encode_cmpInstr .tst c rn sbz.toFin op2
  | teq c rn sbz op2 => exact decodeWord_encode_cmpInstr .teq c rn sbz.toFin op2
  | cmp c rn sbz op2 => exact decodeWord_encode_cmpInstr .cmp c rn sbz.toFin op2
  | cmn c rn sbz op2 => exact decodeWord_encode_cmpInstr .cmn c rn sbz.toFin op2
  | orr => exact decodeWord_of_dpInstr (o := .orr) ⟨h, rfl⟩
  | mov c sf sbz rd op2 => exact decodeWord_of_dpInstr (o := .mov) (rn := sbz.toFin) ⟨h, rfl⟩
  | bic => exact decodeWord_of_dpInstr (o := .bic) ⟨h, rfl⟩
  | mvn c sf sbz rd op2 => exact decodeWord_of_dpInstr (o := .mvn) (rn := sbz.toFin) ⟨h, rfl⟩
  | mrsCpsr c rd => exact decodeWord_mrsBits c false rd
  | mrsSpsr c rd => exact decodeWord_mrsBits c true rd
  | msrCpsr c rm => exact decodeWord_msrRegBits c false true rm
  | msrCpsrFlgReg c rm => exact decodeWord_msrRegBits c false false rm
  | msrCpsrFlgImm c rot imm8 => exact decodeWord_msrImmBits c false rot imm8
  | msrSpsr c rm => exact decodeWord_msrRegBits c true true rm
  | msrSpsrFlgReg c rm => exact decodeWord_msrRegBits c true false rm
  | msrSpsrFlgImm c rot imm8 => exact decodeWord_msrImmBits c true rot imm8
  | mul c sf rd sbz rs rm => exact decodeWord_encodeMultiply c false sf rd rs rm sbz
  | mla c sf rd rn rs rm => exact decodeWord_encodeMultiply c true sf rd rs rm (Reg.bits rn)
  | swp c rn rd rm => exact decodeWord_encodeSwap c false rn rd rm
  | swpb c rn rd rm => exact decodeWord_encodeSwap c true rn rd rm
  | ldr c p u wb rn rd off => exact decodeWord_encodeSingle c true false p u wb rn rd off
  | ldrb c p u wb rn rd off => exact decodeWord_encodeSingle c true true p u wb rn rd off
  | str c p u wb rn rd off => exact decodeWord_encodeSingle c false false p u wb rn rd off
  | strb c p u wb rn rd off => exact decodeWord_encodeSingle c false true p u wb rn rd off
  | ldm c p u sb wb rn list => exact decodeWord_encodeBlock c true p u sb wb rn list
  | stm c p u sb wb rn list => exact decodeWord_encodeBlock c false p u sb wb rn list
  | b c off24 => exact decodeWord_branchBits c false off24
  | bl c off24 => exact decodeWord_branchBits c true off24
  | swi c comment => exact decodeWord_encode_swi c comment
  | mrc c opc1 crn rd opc2 crm => exact decodeWord_encodeCp15 c true opc1 opc2 crn crm rd
  | mcr c opc1 crn rd opc2 crm => exact decodeWord_encodeCp15 c false opc1 opc2 crn crm rd
  | undefined011x1 c hi lo => exact decodeWord_encode_undefined011x1 c hi lo
  | undefinedLdcStc c low25 => exact decodeWord_encode_undefinedLdcStc c low25
  | undefinedCdp c hi lo => exact decodeWord_encode_undefinedCdp c hi lo
  | undefinedMrcMcrNotP15 c hi cpNum mid lo =>
    exact decodeWord_encode_undefinedMrcMcrNotP15 c hi mid lo (bne_iff_ne.mp h)
  | uppTrap => exact decodeWord_of_uppTrap ⟨h, rfl⟩
  | uppBits4And7 => exact decodeWord_of_uppBits4And7 ⟨h, rfl⟩
  | nvAny low28 => exact decodeWord_encode_nvAny low28

end

/-- Settles O2: each format's fields are what the decoder of its class reads. -/
theorem decodeOfEncode : Obligations.DecodeOfEncode := by
  unfold Obligations.DecodeOfEncode
  intro i rest h
  rw [decode_bytesOfWord, decodeWord_encode h]

/-- Settles O3: the classes of R141 and R148 leave no word out, and each decoder keeps every field of its format. -/
theorem encodeOfDecode : Obligations.EncodeOfDecode := by
  unfold Obligations.EncodeOfDecode
  intro w
  obtain ⟨hwf, hw⟩ := decodeWord_hasWord w
  refine ⟨hwf, hw, ?_⟩
  have hrow := encode_tableRow (decodeWord w)
  rwa [hw] at hrow

/-- Settles O1: each word is decoded by evaluation. -/
theorem specWordsDecode : Obligations.SpecWordsDecode := by
  unfold Obligations.SpecWordsDecode
  decide

end Sys2Proof

/-! PROOFS. The undefined-instruction space (30_encoding.md R148) and branches (45_branch_swi.md R281, R282). -/

namespace Sys2Proof.Machine

variable {s : State} {c : Cond}

/-! ### The undefined-instruction space (R148, R286) -/

theorem undefinedOp_of_holds (hc : condHolds s.cpsr c = true) :
    undefinedOp c s = .next (raiseException .und (s.pc - 8#32) 0x04#32 s) := ifPassed_of_holds hc _

/-- The four kinds of instruction of the space have one meaning. -/
theorem exec_decodeUndefined (c : Cond) (w : Word) (s : State) : exec (decodeUndefined c w) s = undefinedOp c s := by
  unfold decodeUndefined
  split_ifs <;> rfl

/-- Settles O4: a word of the space is decoded by the last class, and every instruction of it takes the trap. -/
theorem undefinedSpaceTraps : Obligations.UndefinedSpaceTraps := by
  unfold Obligations.UndefinedSpaceTraps
  refine ⟨fun w c s hcode hc hspace => ?_, fun c s hc => ?_⟩
  · have hclass : decodeWord w = decodeUndefined c w :=
      (decodeWord_of_code (Cond.code_of_ofCode hcode).symm).trans (decodeClass_undefined hspace)
    rw [execWord, hclass, exec_decodeUndefined, undefinedOp_of_holds hc]
  · exact ⟨fun _ _ => undefinedOp_of_holds hc, fun _ => undefinedOp_of_holds hc, fun _ _ => undefinedOp_of_holds hc,
      fun _ _ _ _ => undefinedOp_of_holds hc⟩

/-! ### Branches (R144, R281, R282) -/

/-- The branch offset is four times the field, as a signed number (R144). -/
theorem branchOffset_eq (off24 : BitVec 24) : branchOffset off24 = BitVec.ofInt 32 (4 * off24.toInt) := by
  rw [branchOffset, BitVec.signExtend, BitVec.toInt_append_zero]
  rfl

theorem branchTarget_eq (off24 : BitVec 24) (s : State) :
    branchTarget off24 s = BitVec.ofInt 32 ((s.pc.toNat : Int) - 4 + 4 * off24.toInt) := by
  have hpc : s.pc - 4#32 = BitVec.ofInt 32 ((s.pc.toNat : Int) - 4) := by
    rw [BitVec.sub_eq_add_neg, Int.sub_eq_add_neg, BitVec.ofInt_add, BitVec.ofInt_natCast, BitVec.ofNat_toNat,
      BitVec.setWidth_eq]
    rfl
  rw [branchTarget, branchOffset_eq, hpc, BitVec.ofInt_add]

theorem branchTarget_aligned (h : s.PcAligned) (off24 : BitVec 24) : (branchTarget off24 s).extractLsb' 0 2 = 0#2 := by
  have hpc : s.pc.toNat % 4 = 0 := wordAligned_iff.mp h
  rw [wordAligned_iff, branchTarget_eq, BitVec.toNat_ofInt]
  omega

/-- Settles O46: the target is aligned when the program counter is, so the jump completes. -/
theorem branchesReachTheirTarget : Obligations.BranchesReachTheirTarget := by
  unfold Obligations.BranchesReachTheirTarget
  intro c off24 s hc hpc target
  have hjump (t : State) : writePc (branchTarget off24 s) t = .next ((t.setReg 15 target).setPf .empty) := by
    rw [writePc_aligned (branchTarget_aligned hpc off24), branchTarget_eq]
    rfl
  constructor
  · rw [exec, execB, ifPassed_of_holds hc, hjump]
  · rw [exec, execBl, ifPassed_of_holds hc, hjump]

end Sys2Proof.Machine

/-! PROOFS. The condition of an instruction, and of the instruction of a word (30_encoding.md R141, R147). -/

namespace Sys2Proof

/-- The condition field of an instruction; NV has none (R147). -/
def Instr.cond : Instr → Option Cond
  | .and c .. | .eor c .. | .sub c .. | .rsb c .. | .add c .. | .adc c .. | .sbc c .. | .rsc c .. => some c
  | .tst c .. | .teq c .. | .cmp c .. | .cmn c .. | .orr c .. | .mov c .. | .bic c .. | .mvn c .. => some c
  | .mrsCpsr c _ | .mrsSpsr c _ | .msrCpsr c _ | .msrCpsrFlgReg c _ | .msrCpsrFlgImm c .. => some c
  | .msrSpsr c _ | .msrSpsrFlgReg c _ | .msrSpsrFlgImm c .. => some c
  | .mul c .. | .mla c .. | .swp c .. | .swpb c .. => some c
  | .ldr c .. | .ldrb c .. | .str c .. | .strb c .. | .ldm c .. | .stm c .. => some c
  | .b c _ | .bl c _ | .swi c _ | .mrc c .. | .mcr c .. => some c
  | .undefined011x1 c .. | .undefinedLdcStc c _ | .undefinedCdp c .. | .undefinedMrcMcrNotP15 c .. => some c
  | .uppTrap c .. | .uppBits4And7 c .. => some c
  | .nvAny _ => none

/-- Every branch of the dispatch order passes the condition on, so the branches agree on it (R141, R148, R149, R218). -/
theorem cond_decodeClass (c : Cond) (w : Word) : (decodeClass c w).cond = some c := by
  simp only [decodeClass, decodeCp15, decodeBranch, decodeBlock, decodeSingle, decodeSwap, decodeMultiply,
    decodeDataProcessing, decodePsr, decodeUndefined, apply_ite Instr.cond]
  simp only [Instr.cond, ite_self]

theorem cond_decodeWord (w : Word) : (decodeWord w).cond = Cond.ofCode (fieldOf w 28 4) := by
  unfold decodeWord
  split <;> rename_i hcode <;> rw [hcode]
  · rfl
  · exact cond_decodeClass _ w

theorem decode_bytesOfWord_eq_ok {w : Word} {i : Instr} {rest : List Byte}
    (h : decode (bytesOfWord w) = .ok (i, rest)) : i = decodeWord w := by
  have hword := decode_bytesOfWord w []
  rw [List.append_nil, h] at hword
  cases hword
  rfl

end Sys2Proof

/-! PROOFS. The tick and the prefetch abort (40_pipeline_dispatch.md R160 to R174, 60_exceptions.md R328, R345). -/

namespace Sys2Proof.Machine

variable {s t : State}

/-! ### The step, by the queue (R160, R161, R170) -/

theorem tickWith_halted (execute : Word → State → Outcome State) (h : s.halted = true) :
    tickWith execute s = .next s := if_pos h

theorem step_of_schedule_nil (h : s.schedule = []) : step s = tickWith execWord s := by
  rw [step, stepWith, h]

theorem step_empty (hsched : s.schedule = []) (hrun : s.halted = false) (hpf : s.pf = .empty) :
    step s = andThen (fetch s) fun m => .next (advance (.one m.1) m.2) := by
  rw [step_of_schedule_nil hsched, tickWith, hrun, hpf]
  rfl

theorem step_one {a : Slot} (hsched : s.schedule = []) (hrun : s.halted = false) (hpf : s.pf = .one a) :
    step s = andThen (fetch s) fun m => .next (advance (.two a m.1) m.2) := by
  rw [step_of_schedule_nil hsched, tickWith, hrun, hpf]
  rfl

theorem step_two {a b : Slot} {m : Slot × State} (hsched : s.schedule = []) (hrun : s.halted = false)
    (hpf : s.pf = .two a b) (hm : fetch s = .next m) :
    step s = andThen (runSlot execWord a (advance (.two b m.1) m.2)) fun t => .next (takePendingAbort t) := by
  rw [step_of_schedule_nil hsched, tickWith, hrun, hpf]
  dsimp only
  rw [hm, andThen_next]
  rfl

theorem step_of_aboutToRun {w : Word} {newer : Slot} {m : Slot × State} (h : s.AboutToRun w newer)
    (hm : fetch s = .next m) :
    step s = andThen (execWord w (advance (.two newer m.1) m.2)) fun t => .next (takePendingAbort t) := by
  obtain ⟨hsched, hrun, hpf⟩ := h
  exact step_two hsched hrun hpf hm

/-! ### The fetch and the advance (R162) -/

theorem fetch_frame {m : Slot × State} (h : fetch s = .next m) : ReadFrame s m.2 := by
  obtain ⟨r, hr, h⟩ := andThen_eq_next.mp h
  have hframe := memRead_frame hr
  split at h <;> cases h <;> exact hframe

/-- The slot a fetch in flat RAM fills (R68). -/
def State.fetchedSlot (s : State) : Slot := .word (s.mem.readWord (accessAddress s.pc .word).toNat)

theorem fetch_flatRam (h : s.FlatRam) : fetch s = .next (s.fetchedSlot,
    s.logBus (.read (accessAddress s.pc .word) .word)) := by
  rw [fetch, memRead_flatRam h, andThen_next]
  rfl

@[simp] theorem advance_pc (q : Prefetch) (s : State) : (advance q s).pc = s.pc + 4#32 := State.pc_setReg_pcReg _ _

theorem advance_reg_of_ne (q : Prefetch) (s : State) {r : Reg} (h : r ≠ pcReg) : (advance q s).reg r = s.reg r :=
  State.reg_setReg_of_ne _ h _

theorem advance_pc_of_fetch {m : Slot × State} (h : fetch s = .next m) (q : Prefetch) :
    (advance q m.2).pc = s.pc + 4#32 := by
  rw [advance_pc, (fetch_frame h).pc_eq]

theorem advance_faultPending_of_fetch {m : Slot × State} (h : fetch s = .next m) (q : Prefetch) :
    (advance q m.2).faultPending = s.faultPending := (fetch_frame h).faultPending_eq

/-- A word-aligned address is the address of its word access (R67). -/
theorem accessAddress_of_aligned {va : Word} (h : va.extractLsb' 0 2 = 0#2) : accessAddress va .word = va := by
  have hmask : va &&& 0xFFFFFFFC#32 = va.extractLsb' 2 30 ++ 0#2 := by
    simpa using maskedOr_eq_append (h := 30) (k := 2) rfl va 0#32
  calc accessAddress va .word = va.extractLsb' 2 30 ++ va.extractLsb' 0 2 := by rw [h, accessAddress, hmask]
    _ = va.extractLsb' 0 32 := BitVec.extractLsb'_append_extractLsb'_eq_extractLsb' rfl
    _ = va := BitVec.extractLsb'_eq_self

/-! ### Reports and the end of a tick (R73, R167, R337) -/

theorem takePendingAbort_none (h : s.faultPending = none) : takePendingAbort s = s := by
  rw [takePendingAbort, h]

theorem takePendingAbort_some {f : FaultCode} (h : s.faultPending = some f) :
    takePendingAbort s = dataAbort f (s.setFaultPending none) := by
  rw [takePendingAbort, h]

/-- The fault status register holds the domain above the type (R36). -/
theorem faultStatus_eq : ∀ domain type : BitVec 4,
    0#24 ++ domain ++ type = (domain.setWidth 32 <<< 4) ||| type.setWidth 32 := by decide

theorem reportFault_eq (f : FaultCode) (s : State) : reportFault f s =
    if f.type = .nonMMU then s
    else s.setCp15 { s.cp15 with
      fsr := (f.domain.setWidth 32 <<< 4) ||| (f.type.nibble.getD 0#4).setWidth 32, far := f.va } := by
  obtain ⟨type, domain, va⟩ := f
  cases type <;> simp [reportFault, FaultType.nibble, faultStatus_eq]

/-- Settles O8: the popped fault becomes the exception, and no fault of the data side is latched before or after it. -/
theorem fetchFaultAbortsAtPop : Obligations.FetchFaultAbortsAtPop := by
  unfold Obligations.FetchFaultAbortsAtPop
  intro f newer s m hsched hrun hpf hnone hm
  let s1 := advance (.two newer m.1) m.2
  have hcp15 : s1.cp15 = s.cp15 := (fetch_frame hm).cp15_eq
  have hreturn : s1.pc - 8#32 = s.pc - 4#32 := by
    rw [advance_pc_of_fetch hm]
    bv_omega
  have hlatch : (prefetchAbort f s1).faultPending = none := by
    rw [prefetchAbort, raiseException_faultPending, reportFault_faultPending, advance_faultPending_of_fetch hm, hnone]
  refine ⟨prefetchAbort f s1, ?_, ?_⟩
  · rw [step_two hsched hrun hpf hm, runSlot, andThen_next, takePendingAbort_none hlatch]
  · rw [prefetchAbort, hreturn, reportFault_eq, hcp15, BitVec.or_comm]

/-! ### Conditions (R147, R165, R166, R168) -/

theorem flags_withNZCV (below : Word) (n z c v : Bool) :
    flagN (withNZCV below n z c v) = n ∧ flagZ (withNZCV below n z c v) = z ∧
      flagC (withNZCV below n z c v) = c ∧ flagV (withNZCV below n z c v) = v := by
  have hbit (i : Nat) : (withNZCV below n z c v).getLsbD (28 + i) =
      (BitVec.ofBool n ++ BitVec.ofBool z ++ BitVec.ofBool c ++ BitVec.ofBool v).getLsbD i :=
    BitVec.getLsbD_append.trans (by simp)
  have hfour : ∀ n z c v : Bool, let x := BitVec.ofBool n ++ BitVec.ofBool z ++ BitVec.ofBool c ++ BitVec.ofBool v
      x.getLsbD 3 = n ∧ x.getLsbD 2 = z ∧ x.getLsbD 1 = c ∧ x.getLsbD 0 = v := by decide
  obtain ⟨hn, hz, hc, hv⟩ := hfour n z c v
  exact ⟨(hbit 3).trans hn, (hbit 2).trans hz, (hbit 1).trans hc, (hbit 0).trans hv⟩

theorem ifPassed_of_fails {c : Cond} (h : condHolds s.cpsr c = false) (body : State → Outcome State) :
    ifPassed c s body = .next s := if_neg (Bool.eq_false_iff.mp h)

/-- Every meaning is one under its condition, but for NV, which does nothing (R147, R168). -/
theorem exec_of_cond_fails {i : Instr} (h : ∀ c, i.cond = some c → condHolds s.cpsr c = false) :
    exec i s = .next s := by
  cases i with
  | nvAny => rfl
  | _ => exact if_neg (Bool.eq_false_iff.mp (h _ rfl))

theorem execWord_of_cond_fails {w : Word}
    (h : ∀ c, Cond.ofCode (fieldOf w 28 4) = some c → condHolds s.cpsr c = false) : execWord w s = .next s :=
  exec_of_cond_fails fun c hc => h c ((cond_decodeWord w).symm.trans hc)

/-- Settles O5: a word's condition is its instruction's, and every meaning is one under its condition. -/
theorem conditionsAndFailedConditions : Obligations.ConditionsAndFailedConditions := by
  unfold Obligations.ConditionsAndFailedConditions
  refine ⟨?predicates, fun w s => execWord_of_cond_fails, fun low28 s => ⟨decodeWord_encode_nvAny low28, rfl⟩, ?tick⟩
  case predicates =>
    intro n z c v below
    simp only [condHolds, flags_withNZCV, and_self]
  case tick =>
    intro w newer s m hfails habout hnone hm
    let s1 := advance (.two newer m.1) m.2
    have hcpsr : s1.cpsr = s.cpsr := (fetch_frame hm).cpsr_eq
    have hskip : execWord w s1 = .next s1 := execWord_of_cond_fails (by rwa [hcpsr])
    rw [step_of_aboutToRun habout hm, hskip, andThen_next,
      takePendingAbort_none ((advance_faultPending_of_fetch hm _).trans hnone)]

/-- Settles O6: four bytes decode to the instruction of their word. -/
theorem stepRunsDecodedInstruction : Obligations.StepRunsDecodedInstruction := by
  unfold Obligations.StepRunsDecodedInstruction
  intro w newer i rest s m habout hdecode hm
  rw [step_of_aboutToRun habout hm, execWord, decode_bytesOfWord_eq_ok hdecode]

/-! ### The first ticks after a flush (R27, R161, R174) -/

/-- The state after a tick that fetches in flat RAM and executes nothing, with the queue `q` of the word fetched. -/
def State.fetched (s : State) (q : Slot → Prefetch) : State :=
  advance (q s.fetchedSlot) (s.logBus (.read (accessAddress s.pc .word) .word))

theorem State.FlatRam.fetched (h : s.FlatRam) (q : Slot → Prefetch) : (s.fetched q).FlatRam :=
  let ⟨hmmu, halign, hram⟩ := h
  ⟨hmmu, halign, hram⟩

@[simp] theorem State.fetched_pc (s : State) (q : Slot → Prefetch) : (s.fetched q).pc = s.pc + 4#32 := advance_pc _ _

theorem State.fetched_reg_of_ne (s : State) (q : Slot → Prefetch) {r : Reg} (h : r ≠ pcReg) :
    (s.fetched q).reg r = s.reg r := advance_reg_of_ne _ _ h

theorem andThen_fetch_flatRam (h : s.FlatRam) (q : Slot → Prefetch) :
    (andThen (fetch s) fun m => .next (advance (q m.1) m.2)) = .next (s.fetched q) := by
  rw [fetch_flatRam h, andThen_next, State.fetched]

theorem run_succ {k : Nat} (h : step s = .next t) : core.run (k + 1) s = core.run k t := by
  have hcore : core.step s = .next t := h
  simp only [Host.Core.run, hcore]

/-- Settles O7: the first tick fetches the word into the older slot, the second fills the queue, the third executes. -/
theorem thirdTickRunsTheBytesAtThePc : Obligations.ThirdTickRunsTheBytesAtThePc := by
  unfold Obligations.ThirdTickRunsTheBytesAtThePc
  intro s i rest hsched hrun hpf _ hflat haligned hdecode
  let w := s.mem.readWord s.pc.toNat
  have hword : s.mem.readWord (accessAddress s.pc .word).toNat = w := by rw [accessAddress_of_aligned haligned]
  let s1 := s.fetched .one
  have hstep : step s = .next s1 := by rw [step_empty hsched hrun hpf, andThen_fetch_flatRam hflat]
  have hpf1 : s1.pf = .one (.word w) := congrArg (fun v => Prefetch.one (.word v)) hword
  let s2 := s1.fetched (.two (.word w))
  have hstep1 : step s1 = .next s2 := by
    rw [step_one (s := s1) hsched hrun hpf1, andThen_fetch_flatRam (hflat.fetched _)]
  have hflat2 : s2.FlatRam := (hflat.fetched _).fetched _
  let s3 := s2.fetched (.two s1.fetchedSlot)
  refine ⟨s2, s3, ?run, ?pc2, ?pc3, rfl, ?regs, rfl, rfl, ?third⟩
  case run => exact (run_succ hstep).trans (run_succ hstep1)
  case pc2 => rw [State.fetched_pc, State.fetched_pc, BitVec.add_assoc]; rfl
  case pc3 => rw [State.fetched_pc, State.fetched_pc, State.fetched_pc, BitVec.add_assoc, BitVec.add_assoc]; rfl
  case regs =>
    intro r hr
    rw [State.fetched_reg_of_ne _ _ hr, State.fetched_reg_of_ne _ _ hr, State.fetched_reg_of_ne _ _ hr]
  case third =>
    rw [step_of_aboutToRun (s := s2) ⟨hsched, hrun, rfl⟩ (fetch_flatRam hflat2), execWord,
      decode_bytesOfWord_eq_ok hdecode]
    rfl

/-! ### The halt (R170, R345) -/

theorem raiseException_halted (b : ExcBank) (savedPC vectorPC : Word) (s : State) :
    (raiseException b savedPC vectorPC s).halted = s.halted := by
  simp [raiseException_eq]

theorem requestFIQ_halted (s : State) : (requestFIQ s).halted = false := by
  unfold requestFIQ
  dsimp only
  split
  · rfl
  · rw [State.setCpsr_halted, raiseException_halted, State.setHalted_halted]

theorem requestIRQ_halted (s : State) : (requestIRQ s).halted = false := by
  unfold requestIRQ
  dsimp only
  split
  · rfl
  · rw [State.setCpsr_halted, raiseException_halted, State.setHalted_halted]

theorem environmentAct_halted {a : EnvAction} (h : s.halted = true) (hfiq : a ≠ .requestFIQ) (hirq : a ≠ .requestIRQ)
    (hreset : a ≠ .reset) : (environmentAct a s).halted = true := by
  cases a with
  | requestFIQ => exact absurd rfl hfiq
  | requestIRQ => exact absurd rfl hirq
  | reset => exact absurd rfl hreset
  | tick | setProcessorID | busMaster => exact h
  | halt => rfl
  | debugRead va n => exact (readVirtualDebug_frame va n s).1.halted_eq.trans h

theorem step_of_schedule_cons {a : EnvAction} {rest : List EnvAction} (h : s.schedule = a :: rest) :
    step s = if a = .tick then tickWith execWord (s.setSchedule rest)
    else .next (environmentAct a (s.setSchedule rest)) := by
  rw [step, stepWith, h]
  cases a <;> rfl

/-- Settles O9: a halted tick returns at once, and of the actions only the two requests and reset clear the flag. -/
theorem haltedTickDoesNothing : Obligations.HaltedTickDoesNothing := by
  unfold Obligations.HaltedTickDoesNothing
  refine ⟨?empty, ?tick, ?action, fun s => ⟨requestFIQ_halted s, requestIRQ_halted s, rfl⟩⟩
  case empty =>
    intro s hhalted hsched
    rw [step_of_schedule_nil hsched, tickWith_halted _ hhalted]
  case tick =>
    intro s rest hhalted hsched
    rw [step_of_schedule_cons hsched, if_pos rfl]
    exact tickWith_halted _ hhalted
  case action =>
    intro s t a rest hhalted hsched hfiq hirq hreset hstep
    rw [step_of_schedule_cons hsched] at hstep
    split at hstep
    · rw [tickWith_halted (s := s.setSchedule rest) _ hhalted] at hstep
      cases hstep
      exact hhalted
    · cases hstep
      exact environmentAct_halted hhalted hfiq hirq hreset

end Sys2Proof.Machine

/-! PROOFS. The data-fault latch and the program counter (60_exceptions.md R329, R336): an instruction that latches a
fault leaves the program counter alone, so the data abort at the end of its tick saves `A + 8`. -/

namespace Sys2Proof.Machine

variable {s t u : State}

/-- The data-fault latch is as it was. -/
def LatchKept (s t : State) : Prop := t.faultPending = s.faultPending

/-- The program counter is as it was. -/
def PcKept (s t : State) : Prop := t.pc = s.pc

/-- A fault newly latched comes with the program counter unwritten (R329). -/
def LatchRule (s t : State) : Prop := LatchKept s t ∨ PcKept s t

theorem LatchKept.trans (h : LatchKept s t) (h' : LatchKept t u) : LatchKept s u := Eq.trans h' h

theorem PcKept.trans (h : PcKept s t) (h' : PcKept t u) : PcKept s u := Eq.trans h' h

theorem PcKept.setReg {r : Reg} (h : r ≠ pcReg) (v : Word) (s : State) : PcKept s (s.setReg r v) :=
  s.pc_setReg_of_ne h v

theorem PcKept.latchDataFault (f : FaultCode) (s : State) : PcKept s (latchDataFault f s) := by
  unfold Machine.latchDataFault
  split <;> rfl

/-! ### Jumps, status words and exceptions latch nothing -/

theorem writePc_latchKept (v : Word) (s : State) : Ensures (writePc v s) (LatchKept s) := by
  unfold writePc
  split
  · exact ensures_next.mpr rfl
  · exact ensures_refused _

theorem writeReg_latchKept (r : Reg) (v : Word) (s : State) : Ensures (writeReg r v s) (LatchKept s) := by
  unfold writeReg
  split
  · exact writePc_latchKept v s
  · exact ensures_next.mpr rfl

theorem writeCpsr_latchKept (v : Word) (s : State) : Ensures (writeCpsr v s) (LatchKept s) := by
  unfold writeCpsr
  split
  · exact ensures_next.mpr (switchBank_faultPending _ _)
  · exact ensures_refused _

theorem restoreCpsr_latchKept (s : State) : Ensures (restoreCpsr s) (LatchKept s) :=
  ensures_andThen_of_forall fun _ => writeCpsr_latchKept _ s

theorem jumpRestoring_latchKept (restore : Bool) (v : Word) (s : State) :
    Ensures (jumpRestoring restore v s) (LatchKept s) := by
  refine (writePc_latchKept v s).andThen fun t ht => ?_
  split
  · exact (restoreCpsr_latchKept t).imp fun _ hu => ht.trans hu
  · exact ensures_next.mpr ht

theorem raiseUnrecognised_latchKept (s : State) : LatchKept s (raiseUnrecognised s) := by
  unfold raiseUnrecognised
  split <;> exact raiseException_faultPending _ _ _ _

/-! ### Instructions that make no access latch nothing -/

theorem flagsWritten_latchKept (sf : Bool) (o : Alu) (s : State) : LatchKept s (if sf then s.setFlags o else s) := by
  cases sf <;> rfl

theorem dataTail_latchKept (sf : Bool) (rd : Reg) (o : Alu) (s : State) :
    Ensures (dataTail sf rd o s) (LatchKept s) := by
  have hflags := flagsWritten_latchKept sf o s
  by_cases hrd : rd = pcReg
  · subst hrd
    rw [dataTail_pc]
    exact (jumpRestoring_latchKept sf o.result _).imp fun _ ht => hflags.trans ht
  · rw [dataTail, if_neg hrd]
    exact ensures_next.mpr hflags

theorem dataOp_latchKept (c : Cond) (sf : Bool) (rd : Reg) (op2 : Operand2) (f : State → Word → Bool → Alu)
    (s : State) : Ensures (dataOp c sf rd op2 f s) (LatchKept s) :=
  ensures_ifPassed rfl (ensures_andThen_of_forall fun _ => dataTail_latchKept sf rd _ s)

theorem compareOp_latchKept (c : Cond) (op2 : Operand2) (f : State → Word → Bool → Alu) (s : State) :
    Ensures (compareOp c op2 f s) (LatchKept s) :=
  ensures_ifPassed rfl (ensures_andThen_of_forall fun _ => ensures_next.mpr rfl)

theorem multiplyOp_latchKept (c : Cond) (sf : Bool) (rd : Reg) (usesPc : Bool) (result : State → Word) (s : State) :
    Ensures (multiplyOp c sf rd usesPc result s) (LatchKept s) :=
  ensures_checked rfl fun _ => ensures_next.mpr (flagsWritten_latchKept sf _ s)

theorem psrTransfer_latchKept (c : Cond) (r : Reg) {body : State → Outcome State}
    (hbody : Ensures (body s) (LatchKept s)) : Ensures (psrTransfer c r body s) (LatchKept s) := by
  refine ensures_ifPassed rfl ?_
  split
  · exact ensures_refused _
  · exact hbody

theorem execMrsSpsr_latchKept (c : Cond) (rd : Reg) (s : State) : Ensures (execMrsSpsr c rd s) (LatchKept s) := by
  refine psrTransfer_latchKept c rd ?_
  split
  · exact ensures_andThen_of_forall fun _ => ensures_next.mpr rfl
  · exact ensures_next.mpr rfl

theorem msrWhole_latchKept (v : Word) (s : State) : Ensures (msrWhole v s) (LatchKept s) := by
  unfold msrWhole
  split
  · exact writeCpsr_latchKept v s
  · exact ensures_next.mpr rfl

theorem msrSaved_latchKept (f : Word → Word) (s : State) : Ensures (msrSaved f s) (LatchKept s) := by
  unfold msrSaved
  split
  · exact ensures_andThen_of_forall fun _ => ensures_next.mpr rfl
  · exact ensures_next.mpr rfl

theorem cp15Transfer_latchKept (c : Cond) (rd : Reg) {body : State → State} (hbody : LatchKept s (body s)) :
    Ensures (cp15Transfer c rd body s) (LatchKept s) := by
  refine ensures_ifPassed rfl ?_
  split
  · exact ensures_next.mpr (raiseUnrecognised_latchKept s)
  · split
    · exact ensures_refused _
    · exact ensures_next.mpr hbody

theorem cp15Write_latchKept (crn : BitVec 4) (opc2 : BitVec 3) (v : Word) (s : State) :
    LatchKept s (cp15Write crn opc2 v s) := by
  rw [cp15Write_frame]
  rfl

theorem undefinedOp_latchKept (c : Cond) (s : State) : Ensures (undefinedOp c s) (LatchKept s) :=
  ensures_ifPassed rfl (ensures_next.mpr (raiseException_faultPending _ _ _ _))

/-! ### Single transfers and swaps (R249, R257) -/

theorem memRead_kept (va : Word) (n : Size) (s : State) :
    Ensures (memRead va n s) fun m => PcKept s m.2 ∧ LatchKept s m.2 :=
  fun _ h => ⟨(memRead_frame h).pc_eq, (memRead_frame h).faultPending_eq⟩

theorem memWrite_pcKept (va : Word) (n : Size) (v : Word) (s : State) :
    Ensures (memWrite va n v s) fun m => PcKept s m.2 := fun _ h => (memWrite_frame h).pc_eq

theorem writeBack_latchKept (p w : Bool) (rn : Reg) (target : Word) (s : State) :
    LatchKept s (writeBack p w rn target s) := by
  unfold writeBack
  split <;> rfl

theorem PcKept.writeBack {p w : Bool} {rn : Reg} {off : Offset} (h : transferUsesPc p w rn off ≠ true)
    (target : Word) (s : State) : PcKept s (writeBack p w rn target s) := by
  unfold Machine.writeBack
  split
  · rename_i hwb
    refine .setReg (fun hrn => h ?_) target s
    simp [transferUsesPc, hwb, hrn]
  · rfl

/-- A load that faults loads nothing; one that does not latches nothing. -/
theorem loadSingle_latchRule {p w : Bool} {rn : Reg} {off : Offset} (hpc : transferUsesPc p w rn off ≠ true) (n : Size)
    (convert : Word → Word → Word) (u : Bool) (rd : Reg) (s : State) :
    Ensures (loadSingle n convert p u w rn rd off s) (LatchRule s) := by
  refine (memRead_kept _ n s).andThen fun m ⟨hread, hlatch⟩ => ?_
  split
  · exact ensures_next.mpr (.inr ((hread.trans (.latchDataFault _ _)).trans (.writeBack hpc _ _)))
  · exact (writeReg_latchKept rd _ _).imp fun _ ht => .inl ((hlatch.trans (writeBack_latchKept ..)).trans ht)

theorem storeSingle_pcKept {p w : Bool} {rn : Reg} {off : Offset} (hpc : transferUsesPc p w rn off ≠ true) (n : Size)
    (u : Bool) (rd : Reg) (s : State) : Ensures (storeSingle n p u w rn rd off s) (PcKept s) := by
  refine (memWrite_pcKept _ n _ s).andThen fun m hm => ?_
  split <;> refine ensures_next.mpr ?_
  · exact (hm.trans (.latchDataFault _ _)).trans (.writeBack hpc _ _)
  · exact hm.trans (.writeBack hpc _ _)

theorem swapOp_pcKept {rd : Reg} (hrd : rd ≠ pcReg) (n : Size) (convert : Word → Word → Word) (rn rm : Reg)
    (s : State) : Ensures (swapOp n convert rn rd rm s) (PcKept s) := by
  refine (memRead_kept _ n s).andThen fun m ⟨hm, _⟩ => ?_
  split
  · exact ensures_next.mpr (hm.trans (.latchDataFault _ _))
  · refine (memWrite_pcKept _ n _ m.2).andThen fun w hw => ?_
    split <;> refine ensures_next.mpr ?_
    · exact ((hm.trans hw).trans (.latchDataFault _ _)).trans (.setReg hrd _ _)
    · exact (hm.trans hw).trans (.setReg hrd _ _)

/-! ### Block transfers (R266, R267) -/

/-- The registers of a list come in increasing number (R146). -/
theorem registersOf_sorted (list : BitVec 16) : (registersOf list).Pairwise (· < ·) :=
  List.Pairwise.filter _ (by decide)

/-- Loads that end in a fault have not reached the program counter, which comes last. -/
def LoadRule (s : State) (m : Bool × State) : Prop :=
  (m.1 = true → PcKept s m.2) ∧ (m.1 = false → LatchKept s m.2)

theorem loadRegisters_loadRule {rs : List Reg} (hsorted : rs.Pairwise (· < ·)) (addr : Word) (s : State) :
    Ensures (loadRegisters rs addr s) (LoadRule s) := by
  induction rs generalizing addr s with
  | nil => exact ensures_next.mpr ⟨nofun, fun _ => rfl⟩
  | cons r rest ih =>
    obtain ⟨hr, hrest⟩ := List.pairwise_cons.mp hsorted
    refine (memRead_kept addr .word s).andThen fun m ⟨hpc, hlatch⟩ => ?_
    split
    · exact ensures_next.mpr ⟨fun _ => hpc.trans (.latchDataFault _ _), nofun⟩
    · by_cases hlast : r = pcReg
      · have hnil : rest = [] := List.eq_nil_iff_forall_not_mem.mpr fun x hx =>
          absurd (hr x hx) (by rw [hlast]; exact (Fin.le_last x).not_gt)
        subst hnil
        exact (writeReg_latchKept r _ m.2).andThen fun t ht =>
          ensures_next.mpr ⟨nofun, fun _ => hlatch.trans ht⟩
      · rw [writeReg, if_neg hlast, andThen_next]
        exact (ih hrest _ _).imp fun _ ⟨hfaulted, hloaded⟩ =>
          ⟨fun h => (hpc.trans (.setReg hlast _ _)).trans (hfaulted h), fun h => hlatch.trans (hloaded h)⟩

theorem bankSwitched_pcKept (b : Bool) (nb : Bank) (s : State) : PcKept s (if b then switchBank nb s else s) := by
  cases b
  · rfl
  · exact pc_switchBank nb s

theorem bankSwitched_latchKept (b : Bool) (nb : Bank) (s : State) :
    LatchKept s (if b then switchBank nb s else s) := by
  cases b
  · rfl
  · exact switchBank_faultPending nb s

theorem finishLoad_latchRule {rn : Reg} (hrn : rn ≠ pcReg) (sb w : Bool) (list : BitVec 16) (base final : Word)
    {aborted : Bool} (h : LoadRule s (aborted, t)) :
    Ensures (finishLoad sb w rn list base final aborted t) (LatchRule s) := by
  obtain ⟨hfaulted, hloaded⟩ := h
  unfold finishLoad
  split
  · exact ensures_next.mpr (.inr ((hfaulted ‹_›).trans (.setReg hrn _ _)))
  · have hlatch : LatchKept s t := hloaded (Bool.eq_false_iff.mpr ‹_›)
    split
    · exact (restoreCpsr_latchKept t).imp fun _ hu => .inl (hlatch.trans hu)
    · exact ensures_next.mpr (.inl hlatch)

theorem loadMultiple_latchRule {rn : Reg} (hrn : rn ≠ pcReg) (p u sb w : Bool) (list : BitVec 16) (s : State) :
    Ensures (loadMultiple p u sb w rn list s) (LatchRule s) := by
  let based := if w then s.setReg rn (blockFinal u (s.reg rn) list) else s
  have hpc : PcKept s based := by
    cases w
    · rfl
    · exact .setReg hrn _ s
  have hlatch : LatchKept s based := by cases w <;> rfl
  refine (loadRegisters_loadRule (registersOf_sorted list) _ _).andThen fun m ⟨hfaulted, hloaded⟩ =>
    finishLoad_latchRule hrn sb w list _ _ ⟨fun h => ?_, fun h => ?_⟩
  · exact ((hpc.trans (bankSwitched_pcKept ..)).trans (hfaulted h)).trans (bankSwitched_pcKept ..)
  · exact ((hlatch.trans (bankSwitched_latchKept ..)).trans (hloaded h)).trans (bankSwitched_latchKept ..)

theorem storeOne_pcKept (r : Reg) (addr : Word) {pending : Option (Reg × Word)} (hpc : ∀ q ∈ pending, q.1 ≠ pcReg)
    (s : State) : Ensures (storeOne r addr pending s) (PcKept s) := by
  refine (memWrite_pcKept addr .word _ s).andThen fun m hm => ?_
  have hlatched : PcKept s (match m.1 with | some f => latchDataFault f m.2 | none => m.2) := by
    split
    · exact hm.trans (.latchDataFault _ _)
    · exact hm
  rcases pending with _ | ⟨rn, final⟩ <;> refine ensures_next.mpr ?_
  · exact hlatched
  · exact hlatched.trans (.setReg (hpc _ rfl) _ _)

theorem storeRegisters_pcKept (rs : List Reg) (addr : Word) {pending : Option (Reg × Word)}
    (hpc : ∀ q ∈ pending, q.1 ≠ pcReg) (s : State) : Ensures (storeRegisters rs addr pending s) (PcKept s) := by
  induction rs generalizing addr pending s with
  | nil => exact ensures_next.mpr rfl
  | cons r rest ih =>
    exact (storeOne_pcKept r addr hpc s).andThen fun t ht =>
      (ih (addr + 4#32) (fun _ hq => by cases hq) t).imp fun _ hrest => ht.trans hrest

theorem storeMultiple_pcKept {rn : Reg} (hrn : rn ≠ pcReg) (p u sb w : Bool) (list : BitVec 16) (s : State) :
    Ensures (storeMultiple p u sb w rn list s) (PcKept s) := by
  have hpending : ∀ q ∈ (if w && !sb then some (rn, blockFinal u (s.reg rn) list) else none), q.1 ≠ pcReg := by
    intro q hq
    split at hq
    · cases hq; exact hrn
    · cases hq
  exact (storeRegisters_pcKept _ _ hpending _).andThen fun t ht =>
    ensures_next.mpr (((bankSwitched_pcKept ..).trans ht).trans (bankSwitched_pcKept ..))

/-! ### Every instruction -/

theorem execLdrb_latchRule (c : Cond) (p u w : Bool) (rn rd : Reg) (off : Offset) (s : State) :
    Ensures (execLdrb c p u w rn rd off s) (LatchRule s) := by
  refine ensures_checked (.inl rfl) fun hpc => ?_
  split
  · exact ensures_refused _
  · exact loadSingle_latchRule hpc .byte _ u rd s

theorem execLdm_latchRule (c : Cond) (p u sb w : Bool) (rn : Reg) (list : BitVec 16) (s : State) :
    Ensures (execLdm c p u sb w rn list s) (LatchRule s) := by
  refine ensures_ifPassed (.inl rfl) ?_
  split
  · exact ensures_refused _
  · exact loadMultiple_latchRule (ne_pcReg_of_blockRefusal_none ‹_›) p u sb w list s

theorem execStm_pcKept (c : Cond) (p u sb w : Bool) (rn : Reg) (list : BitVec 16) (s : State) :
    Ensures (execStm c p u sb w rn list s) (PcKept s) := by
  refine ensures_ifPassed rfl ?_
  split
  · exact ensures_refused _
  · exact storeMultiple_pcKept (ne_pcReg_of_blockRefusal_none ‹_›) p u sb w list s

theorem exec_latchRule (i : Instr) (s : State) : Ensures (exec i s) (LatchRule s) := by
  have hkept {o : Outcome State} (h : Ensures o (LatchKept s)) : Ensures o (LatchRule s) := h.imp fun _ => .inl
  have hpcKept {o : Outcome State} (h : Ensures o (PcKept s)) : Ensures o (LatchRule s) := h.imp fun _ => .inr
  unfold exec
  cases i with
  | and | eor | sub | rsb | add | adc | sbc | rsc | orr | mov | bic | mvn => exact hkept (dataOp_latchKept _ _ _ _ _ s)
  | tst | teq | cmp | cmn => exact hkept (compareOp_latchKept _ _ _ s)
  | mrsCpsr c rd => exact hkept (psrTransfer_latchKept c rd (ensures_next.mpr rfl))
  | mrsSpsr c rd => exact hkept (execMrsSpsr_latchKept c rd s)
  | msrCpsr c rm => exact hkept (psrTransfer_latchKept c rm (msrWhole_latchKept _ s))
  | msrCpsrFlgReg c rm => exact hkept (psrTransfer_latchKept c rm (ensures_next.mpr rfl))
  | msrCpsrFlgImm => exact hkept (ensures_ifPassed rfl (ensures_next.mpr rfl))
  | msrSpsr c rm | msrSpsrFlgReg c rm => exact hkept (psrTransfer_latchKept c rm (msrSaved_latchKept _ s))
  | msrSpsrFlgImm => exact hkept (ensures_ifPassed rfl (msrSaved_latchKept _ s))
  | mul | mla => exact hkept (multiplyOp_latchKept _ _ _ _ _ s)
  | swp | swpb =>
    exact hpcKept (ensures_checked rfl fun hpc => swapOp_pcKept (ne_pcReg_of_swapUsesPc hpc) _ _ _ _ s)
  | ldr => exact ensures_checked (.inl rfl) fun hpc => loadSingle_latchRule hpc _ _ _ _ s
  | ldrb => exact execLdrb_latchRule _ _ _ _ _ _ _ s
  | str | strb => exact hpcKept (ensures_checked rfl fun hpc => storeSingle_pcKept hpc _ _ _ s)
  | ldm => exact execLdm_latchRule _ _ _ _ _ _ _ s
  | stm => exact hpcKept (execStm_pcKept _ _ _ _ _ _ _ s)
  | b => exact hkept (ensures_ifPassed rfl (writePc_latchKept _ s))
  | bl => exact hkept (ensures_ifPassed rfl (writePc_latchKept _ _))
  | swi => exact hkept (ensures_ifPassed rfl (ensures_next.mpr (raiseException_faultPending _ _ _ _)))
  | mrc c _ _ rd => exact hkept (cp15Transfer_latchKept c rd rfl)
  | mcr c _ _ rd => exact hkept (cp15Transfer_latchKept c rd (cp15Write_latchKept _ _ _ s))
  | undefined011x1 | undefinedLdcStc | undefinedCdp | undefinedMrcMcrNotP15 => exact hkept (undefinedOp_latchKept _ s)
  | uppTrap => exact hkept (ensures_ifPassed rfl (ensures_next.mpr (raiseUnrecognised_latchKept s)))
  | uppBits4And7 => exact hkept (ensures_ifPassed rfl (ensures_refused _))
  | nvAny => exact hkept (ensures_next.mpr rfl)

/-- Settles O53: the latch was empty before the instruction, so it is full only if the program counter is where the tick
put it; the return word `A + 8` is then the program counter the tick began with. -/
theorem dataAbortAtEndOfTick : Obligations.DataAbortAtEndOfTick := by
  unfold Obligations.DataAbortAtEndOfTick
  intro w newer f s t m habout hnone hm hexec hfault
  have hpc : t.pc = s.pc + 4#32 := by
    rcases exec_latchRule (decodeWord w) _ t hexec with hlatch | hpc
    · rw [hlatch, advance_faultPending_of_fetch hm, hnone] at hfault
      cases hfault
    · exact Eq.trans hpc (advance_pc_of_fetch hm _)
  have hreturn : (t.setFaultPending none).pc - 4#32 = s.pc := by
    rw [State.pc_setFaultPending, hpc]
    bv_omega
  refine ⟨hpc, ?_⟩
  rw [step_of_aboutToRun habout hm, hexec, andThen_next, takePendingAbort_some hfault, dataAbort, hreturn,
    reportFault_eq]
  rfl

end Sys2Proof.Machine

/-! PROOFS. The shifter and the operands (41_data_processing.md R181 to R190, 43_single_transfer_swap.md R241). -/

namespace Sys2Proof.Machine

/-! ### One rule for each shift type, whatever the amount from 1 on (R185 to R189) -/

theorem shiftLsl_eq {amt : Nat} (h : amt ≠ 0) (v : Word) (cin : Bool) :
    shiftLsl v amt cin = (v <<< amt, decide (amt ≤ 32) && v.getLsbD (32 - amt)) := by
  unfold shiftLsl
  rw [if_neg h]
  split_ifs with hlt heq
  · rw [decide_eq_true (Nat.le_of_lt hlt), Bool.true_and]
  · simp [heq]
  · rw [BitVec.shiftLeft_eq_zero (by omega), decide_eq_false (by omega), Bool.false_and]

theorem shiftLsr_eq (v : Word) (amt : Nat) : shiftLsr v amt = (v >>> amt, v.getLsbD (amt - 1)) := by
  unfold shiftLsr
  split_ifs with hlt heq
  · rfl
  · rw [BitVec.ushiftRight_eq_zero (by omega), heq]
  · rw [BitVec.ushiftRight_eq_zero (by omega), BitVec.getLsbD_of_ge v (amt - 1) (by omega)]

/-- From 32 on every bit of the result is the sign. -/
theorem sshiftRight_of_ge {n : Nat} (h : 32 ≤ n) (v : Word) :
    v.sshiftRight n = if v.getLsbD 31 then 0xFFFFFFFF#32 else 0#32 := by
  have hbit (i : Nat) (hi : i < 32) : (v.sshiftRight n).getLsbD i = v.getLsbD 31 := by
    rw [BitVec.getLsbD_sshiftRight, if_neg (by omega), decide_eq_false (by omega), Bool.not_false, Bool.true_and,
      BitVec.msb_eq_getLsbD_last]
  apply BitVec.eq_of_getLsbD_eq
  intro i hi
  rw [hbit i hi]
  cases v.getLsbD 31
  · exact BitVec.getLsbD_zero.symm
  · exact (BitVec.getLsbD_allOnes.trans (decide_eq_true hi)).symm

/-- The carry is the lowest bit of the result of a shift by one less. -/
theorem shiftAsr_eq (v : Word) (amt : Nat) :
    shiftAsr v amt = (v.sshiftRight amt, (v.sshiftRight (amt - 1)).getLsbD 0) := by
  have hcarry : (v.sshiftRight (amt - 1)).getLsbD 0 = if amt < 32 then v.getLsbD (amt - 1) else v.getLsbD 31 := by
    rw [BitVec.getLsbD_sshiftRight, BitVec.msb_eq_getLsbD_last]
    by_cases hlt : amt < 32
    · simp [hlt, show amt - 1 < 32 by omega]
    · by_cases heq : amt = 32
      · simp [heq]
      · simp [hlt, show ¬ amt - 1 < 32 by omega]
  by_cases hlt : amt < 32
  · rw [shiftAsr, hcarry, if_pos hlt, if_pos hlt]
  · rw [shiftAsr, hcarry, if_neg hlt, if_neg hlt, sshiftRight_of_ge (not_lt.mp hlt)]

theorem getLsbD_ror32 (v : Word) (n : Nat) {i : Nat} (hi : i < 32) :
    (ror32 v n).getLsbD i = v.getLsbD ((i + n) % 32) := by
  rw [ror32, BitVec.getLsbD_rotateRight]
  by_cases hlt : i < 32 - n % 32
  · rw [decide_eq_true hlt, cond_true, show n % 32 + i = (i + n) % 32 by omega]
  · rw [decide_eq_false hlt, cond_false, decide_eq_true hi, Bool.true_and,
      show i - (32 - n % 32) = (i + n) % 32 by omega]

theorem ror32_mod (v : Word) (n : Nat) : ror32 v (n % 32) = ror32 v n := BitVec.rotateRight_mod_eq_rotateRight

theorem ror32_eq_shifts (v : Word) (n : Nat) : ror32 v n = v >>> (n % 32) ||| v <<< (32 - n % 32) :=
  BitVec.rotateRight_def

/-- The carry of a rotation is the top bit of its result. -/
theorem shiftRorByReg_eq (v : Word) (amt : Nat) : shiftRorByReg v amt = (ror32 v amt, (ror32 v amt).getLsbD 31) := by
  rw [getLsbD_ror32 v amt (by decide), shiftRorByReg]
  split_ifs with hmod
  · rw [← ror32_mod, hmod, show (31 + amt) % 32 = 31 by omega]
    exact congrArg (·, v.getLsbD 31) (by simp [ror32_eq_shifts])
  · rw [shiftRor, ror32_mod, show (31 + amt) % 32 = amt % 32 - 1 by omega]

/-! ### The forms (R184) -/

theorem shiftByImm_of_ne_zero {amt : BitVec 5} (h : amt ≠ 0#5) (v : Word) (cin : Bool) :
    shiftByImm .lsl v amt cin = shiftLsl v amt.toNat cin ∧ shiftByImm .lsr v amt cin = shiftLsr v amt.toNat ∧
      shiftByImm .asr v amt cin = shiftAsr v amt.toNat ∧ shiftByImm .ror v amt cin = shiftRor v amt.toNat := by
  simp only [shiftByImm, if_neg h, and_self]

theorem shiftByReg_of_ne_zero {amt : BitVec 8} (h : amt.toNat ≠ 0) (z : Config.RegShiftZero) (v : Word) (cin : Bool) :
    shiftByReg z .lsl v amt cin = shiftLsl v amt.toNat cin ∧ shiftByReg z .lsr v amt cin = shiftLsr v amt.toNat ∧
      shiftByReg z .asr v amt cin = shiftAsr v amt.toNat ∧
      shiftByReg z .ror v amt cin = shiftRorByReg v amt.toNat := by
  have hne : amt ≠ 0#8 := by rintro rfl; exact h rfl
  simp only [shiftByReg, if_neg hne, and_self]

/-- RRX as a shift by one with the carry put in at the top (R188). -/
theorem shiftRrx_eq (v : Word) (cin : Bool) :
    shiftRrx v cin = ((BitVec.ofBool cin).setWidth 32 <<< 31 ||| v >>> 1, v.getLsbD 0) := by
  have hlow : (v.extractLsb' 1 31).setWidth' (by decide) = v >>> 1 := by
    apply BitVec.eq_of_toNat_eq
    rw [BitVec.toNat_setWidth', BitVec.extractLsb'_toNat, BitVec.toNat_ushiftRight, Nat.shiftRight_eq_div_pow]
    exact Nat.mod_eq_of_lt (by omega)
  rw [shiftRrx, BitVec.append_def, BitVec.shiftLeftZeroExtend_eq, hlow]

/-- Settles O10: the forms by their rules, the boundary amounts by the rule of their type. -/
theorem shifterCases : Obligations.ShifterCases := by
  unfold Obligations.ShifterCases
  intro z v cin
  refine ⟨⟨rfl, by cases z <;> rfl⟩, rfl, rfl, shiftRrx_eq v cin, ?imm, ?reg, ⟨rfl, rfl⟩, ?zero, ?sign, ?rorSame, ?ror⟩
  case imm =>
    intro amt h
    obtain ⟨hlsl, hlsr, hasr, hror⟩ := shiftByImm_of_ne_zero h v cin
    have hpos : amt.toNat ≠ 0 := fun e => h (BitVec.eq_of_toNat_eq e)
    have hlt : amt.toNat < 32 := amt.isLt
    refine ⟨?_, ?_, ?_, ?_⟩
    · rw [hlsl, shiftLsl, if_neg hpos, if_pos hlt]
    · rw [hlsr, shiftLsr, if_pos hlt]
    · rw [hasr, shiftAsr, if_pos hlt]
    · rw [hror, shiftRor, ror32_eq_shifts, Nat.mod_eq_of_lt hlt]
  case reg =>
    intro amt hpos hle
    obtain ⟨hlsl, hlsr, hasr, -⟩ := shiftByReg_of_ne_zero (amt := amt) (by omega) z v cin
    have hlt : amt.toNat < 32 := by omega
    refine ⟨?_, ?_, ?_⟩
    · rw [hlsl, shiftLsl, if_neg (by omega), if_pos hlt]
    · rw [hlsr, shiftLsr, if_pos hlt]
    · rw [hasr, shiftAsr, if_pos hlt]
  case zero =>
    intro amt hge
    obtain ⟨hlsl, hlsr, -, -⟩ := shiftByReg_of_ne_zero (amt := amt) (by omega) z v cin
    constructor
    · rw [hlsl, shiftLsl, if_neg (by omega), if_neg (by omega), if_neg (by omega)]
    · rw [hlsr, shiftLsr, if_neg (by omega), if_neg (by omega)]
  case sign =>
    intro amt hge
    obtain ⟨-, -, hasr, -⟩ := shiftByReg_of_ne_zero (amt := amt) (by omega) z v cin
    rw [hasr, shiftAsr, if_neg (by omega)]
  case rorSame =>
    intro amt h hmod
    obtain ⟨-, -, -, hror⟩ := shiftByReg_of_ne_zero (fun e => h (BitVec.eq_of_toNat_eq e)) z v cin
    rw [hror, shiftRorByReg, if_pos hmod]
  case ror =>
    intro amt hmod
    obtain ⟨-, -, -, hror⟩ := shiftByReg_of_ne_zero (amt := amt) (by omega) z v cin
    rw [hror, shiftRorByReg, if_neg hmod, shiftRor, ror32_mod, ror32_eq_shifts]

/-! ### The shifts over the integers -/

theorem getLsbD_zero_eq_odd (v : Word) : v.getLsbD 0 = decide (v.toInt % 2 = 1) := by
  rw [← BitVec.testBit_toNat, Nat.testBit_zero, decide_eq_decide, BitVec.toInt_eq_toNat_cond]
  split <;> omega

theorem toInt_sshiftRight_eq_div (v : Word) (n : Nat) : (v.sshiftRight n).toInt = v.toInt / 2 ^ n := by
  rw [BitVec.toInt_sshiftRight, Int.shiftRight_eq_div_pow, Nat.cast_pow, Nat.cast_ofNat]

/-- Settles O11: the rule of each type, its shifts read as a product, a quotient and a rotation. -/
theorem shifterIsExact : Obligations.ShifterIsExact := by
  unfold Obligations.ShifterIsExact
  refine ⟨fun v cin => ⟨fun sh => rfl, rfl, rfl, rfl, rfl⟩, fun z v amt cin h => ?_⟩
  have hpos : amt.toNat ≠ 0 := fun e => h (BitVec.eq_of_toNat_eq e)
  obtain ⟨hlsl, hlsr, hasr, hror⟩ := shiftByReg_of_ne_zero hpos z v cin
  rw [hlsl, hlsr, hasr, hror, shiftLsl_eq hpos, shiftLsr_eq, shiftAsr_eq, shiftRorByReg_eq]
  refine ⟨⟨?_, ?_⟩, ⟨?_, ?_⟩, ⟨?_, ?_⟩, fun i hi => getLsbD_ror32 v amt.toNat hi, rfl⟩
  · rw [BitVec.toNat_shiftLeft, Nat.shiftLeft_eq]
  · rw [Nat.testBit_mul_two_pow, BitVec.testBit_toNat]
  · rw [BitVec.toNat_ushiftRight, Nat.shiftRight_eq_div_pow]
  · rw [BitVec.testBit_toNat]
  · exact toInt_sshiftRight_eq_div v amt.toNat
  · rw [getLsbD_zero_eq_odd, toInt_sshiftRight_eq_div]

/-! ### Operands and addresses (R181 to R183, R213, R241, R248) -/

theorem transferTarget_toNat (u : Bool) (rn : Reg) (off : Offset) (s : State) : (transferTarget u rn off s).toNat =
    (if u then (s.rdpc8 rn).toNat + (offsetValue off s).toNat
      else (s.rdpc8 rn).toNat + 2 ^ 32 - (offsetValue off s).toNat) % 2 ^ 32 := by
  have hoff := (offsetValue off s).isLt
  cases u
  · rw [transferTarget, if_neg Bool.false_ne_true, if_neg Bool.false_ne_true, BitVec.toNat_sub]
    congr 1
    omega
  · exact BitVec.toNat_add _ _

/-- A rotated immediate, bit by bit (R142). -/
theorem getLsbD_rotatedImm (rot : BitVec 4) (imm8 : BitVec 8) {i : Nat} (hi : i < 32) :
    (rotatedImm rot imm8).getLsbD i = imm8.getLsbD ((i + 2 * rot.toNat) % 32) := by
  rw [rotatedImm, getLsbD_ror32 _ _ hi, BitVec.getLsbD_setWidth, decide_eq_true (Nat.mod_lt _ (by decide)),
    Bool.true_and]

/-- Settles O12: the offset added or subtracted modulo 2^32, and the operands as the model reads them. -/
theorem operandsAndAddresses : Obligations.OperandsAndAddresses := by
  unfold Obligations.OperandsAndAddresses
  refine ⟨fun p u rn rm sh amt imm12 s => ⟨?_, transferTarget_toNat u rn _ s, fun off => rfl⟩, fun s =>
    ⟨fun rot imm8 => ⟨rotatedImm rot imm8, rfl, fun i hi => getLsbD_rotatedImm rot imm8 hi⟩, fun rm sh amt => rfl,
      fun rm rs sh => rfl, fun rn rm rs sh rot imm8 amt => ⟨rfl, rfl, rfl⟩⟩⟩
  have hoff : (offsetValue (.imm imm12) s).toNat = imm12.toNat := BitVec.toNat_setWidth_of_le (by decide)
  rw [← hoff]
  exact transferTarget_toNat u rn _ s

end Sys2Proof.Machine

/-! PROOFS. Data processing (41_data_processing.md R192 to R217, 60_exceptions.md R338). -/

namespace Sys2Proof.Machine

variable {s t : State}

theorem exec_cmpOp_of_holds {c : Cond} {op2 : Operand2} (hc : condHolds s.cpsr c = true) (h : op2.described = true)
    (o : CmpOp) (rn rd : Reg) : exec (o.instr c rn rd op2) s =
      .next (s.setFlags (o.value (operand1 op2 rn s) (operand2Value op2 s).1 (operand2Value op2 s).2 s)) := by
  rw [exec_cmpOp, compareOp, ifPassed_of_holds hc, operand2_described h, andThen_next]

theorem dataTail_of_ne {rd : Reg} (h : rd ≠ pcReg) (sf : Bool) (o : Alu) (s : State) :
    dataTail sf rd o s = .next ((if sf then s.setFlags o else s).setReg rd o.result) := if_neg h

/-- Settles O13: with a passing condition and a described operand an instruction is its tail. -/
theorem dataProcessingResults : Obligations.DataProcessingResults := by
  unfold Obligations.DataProcessingResults
  constructor
  · intro o c sf rn rd op2 s hc hop2 hrd r
    rw [exec_dpOp_of_holds hc hop2, dataTail_of_ne hrd]
    rfl
  · intro o c rn rd op2 s hc hop2 r
    rw [exec_cmpOp_of_holds hc hop2]
    rfl

/-! ### Jumps (R212, R216) -/

/-- Writing the flags gives no mode an SPSR and takes none away. -/
theorem State.hasSpsr_flagsWritten (sf : Bool) (o : Alu) (s : State) :
    (if sf then s.setFlags o else s).hasSpsr = s.hasSpsr := by
  cases sf
  · rfl
  · unfold State.hasSpsr
    rw [if_pos rfl, State.modeBits_setFlags]

theorem jumpRestoring_of_no_restore {restore : Bool} {v : Word} (hv : v.extractLsb' 0 2 = 0#2)
    (h : restore = false ∨ s.hasSpsr = false) : jumpRestoring restore v s = .next (jumpTo v s) := by
  have hno : (restore && (jumpTo v s).hasSpsr) = false := Bool.and_eq_false_iff.mpr h
  rw [jumpRestoring, writePc_aligned hv, andThen_next, hno]
  rfl

/-- Settles O14: the tail is a jump, and the flags written before it leave the mode. -/
theorem dataProcessingJumps : Obligations.DataProcessingJumps := by
  unfold Obligations.DataProcessingJumps
  intro o c sf rn op2 s hc hop2 hmode r hr
  rw [exec_dpOp_of_holds hc hop2, dataTail_pc,
    jumpRestoring_of_no_restore hr (hmode.imp_right ((s.hasSpsr_flagsWritten sf _).trans ·))]
  rfl

/-! ### The return from an exception (R215, R338) -/

/-- Writing the whole status word switches to the bank of its mode (R26). -/
theorem writeCpsr_of_mode {v : Word} {m : Mode} (h : Mode.ofBits (v.extractLsb' 0 5) = some m) (s : State) :
    writeCpsr v s = .next ((switchBank m.bank s).setCpsr v) := by
  have hswitch : switchMode m s = (switchBank m.bank s).setCpsr (withMode s.cpsr m) := switchBank_setCpsr _ _ _
  simp only [writeCpsr, h, hswitch]
  rfl

theorem currentSpsrBank_of_exc {b : ExcBank} (h : s.curBank = .exc b) : currentSpsrBank s = .next b := by
  rw [currentSpsrBank, h]

/-- A return from an exception: the jump, then the saved word with its bank (R215). -/
theorem jumpRestoring_of_restore {v : Word} {b : ExcBank} {m : Mode} (hv : v.extractLsb' 0 2 = 0#2)
    (hm : s.mode = some b.mode) (hbank : s.curBank = .exc b)
    (hmode : Mode.ofBits ((s.spsr.get b).extractLsb' 0 5) = some m) :
    jumpRestoring true v s = .next ((switchBank m.bank (jumpTo v s)).setCpsr (s.spsr.get b)) := by
  have hspsr : (jumpTo v s).hasSpsr = true := State.hasSpsr_of_mode (s := s) hm
  have hbank' : currentSpsrBank (jumpTo v s) = .next b := currentSpsrBank_of_exc (s := jumpTo v s) hbank
  have hwrite : writeCpsr (s.spsr.get b) (jumpTo v s) = _ := writeCpsr_of_mode hmode _
  rw [jumpRestoring, writePc_aligned hv, andThen_next, hspsr, Bool.and_self, if_pos rfl, restoreCpsr, hbank',
    andThen_next, ← hwrite]
  rfl

/-- A bank switch reads the banks, the shadow slots and the register asked for, nothing else (R25). -/
theorem reg_switchBank_congr {r : Reg} (hreg : t.reg r = s.reg r) (hbank : t.curBank = s.curBank := by rfl)
    (h13 : t.bankR13 = s.bankR13 := by rfl) (h14 : t.bankR14 = s.bankR14 := by rfl)
    (h0 : t.fiqShadow0 = s.fiqShadow0 := by rfl) (h1 : t.fiqShadow1 = s.fiqShadow1 := by rfl) (nb : Bank) :
    (switchBank nb t).reg r = (switchBank nb s).reg r := by
  by_cases h : nb = s.curBank
  · subst h
    rw [switchBank_self, ← hbank, switchBank_self, hreg]
  · rw [reg_switchBank h, reg_switchBank (hbank ▸ h), hreg, hbank, h13, h14, h0, h1]

/-- Settles O15: the tail is a return, whose state is read field by field through the bank switch. -/
theorem dataProcessingReturnsFromException : Obligations.DataProcessingReturnsFromException := by
  unfold Obligations.DataProcessingReturnsFromException
  intro o c rn op2 b m s hc hop2 hm hbank hmode r hr
  let jumped := jumpTo r.result (s.setFlags r)
  refine ⟨(switchBank m.bank jumped).setCpsr (s.spsr.get b), ?exec, rfl, ?pc, ?pf, switchBank_curBank _ _, ?regs,
    switchBank_spsr _ _, switchBank_cp15 _ _, switchBank_mem _ _, switchBank_tlb _ _, switchBank_cache _ _,
    switchBank_faultPending _ _⟩
  case exec =>
    rw [exec_dpOp_of_holds hc hop2, dataTail_pc]
    exact jumpRestoring_of_restore hr ((s.mode_flagsWritten true _).trans hm) hbank hmode
  case pc => exact (pc_switchBank _ _).trans (State.pc_setReg_pcReg _ _)
  case pf => exact switchBank_pf _ _
  case regs =>
    intro r' hr'
    have hjumped : jumped.reg r' = s.reg r' := (s.setFlags r).reg_setReg_of_ne hr' r.result
    exact reg_switchBank_congr hjumped (nb := m.bank)

end Sys2Proof.Machine

/-! PROOFS. The frame of the instructions that move registers only (41_data_processing.md R192 to R214, R219,
42_multiply.md R231 to R234). -/

namespace Sys2Proof.Machine

variable {s t : State}

/-- What an instruction that writes Rd, and the flags where bit S asks for it, may change. -/
structure ResultFrame (sf : Bool) (rd : Reg) (s t : State) : Prop where
  regs : RegsSameBut [rd] s t
  belowFlags : StatusBelowFlagsSame s t
  statusKept : sf = false → t.cpsr = s.cpsr
  memory : MemorySame s t
  rest : t = { s with regs := t.regs, cpsr := t.cpsr }

theorem ResultFrame.refl (sf : Bool) (rd : Reg) (s : State) : ResultFrame sf rd s s :=
  ⟨fun _ _ => rfl, rfl, fun _ => rfl, fun _ => rfl, rfl⟩

/-- The flags are bits 31:28 of the status word. -/
theorem statusBelowFlagsSame_setFlags (o : Alu) (s : State) : StatusBelowFlagsSame s (s.setFlags o) := low_of_append _ _

theorem ResultFrame.resultWritten (sf : Bool) (rd : Reg) (o : Alu) (v : Word) (s : State) :
    ResultFrame sf rd s ((if sf then s.setFlags o else s).setReg rd v) := by
  cases sf with
  | false =>
    exact ⟨fun r hr => s.reg_setReg_of_ne (List.ne_of_not_mem_cons hr) v, rfl, fun _ => rfl, fun _ => rfl, rfl⟩
  | true =>
    exact ⟨fun r hr => (s.setFlags o).reg_setReg_of_ne (List.ne_of_not_mem_cons hr) v,
      statusBelowFlagsSame_setFlags o s, nofun, fun _ => rfl, rfl⟩

theorem dataOp_resultFrame {rd : Reg} (h : rd ≠ pcReg) (c : Cond) (sf : Bool) (op2 : Operand2)
    (f : State → Word → Bool → Alu) (s : State) : Ensures (dataOp c sf rd op2 f s) (ResultFrame sf rd s) := by
  refine ensures_ifPassed (.refl sf rd s) (ensures_andThen_of_forall fun p => ?_)
  rw [dataTail_of_ne h]
  exact ensures_next.mpr (.resultWritten sf rd _ _ s)

/-- What an instruction that writes flags only may change. -/
structure FlagsFrame (s t : State) : Prop where
  belowFlags : StatusBelowFlagsSame s t
  rest : t = { s with cpsr := t.cpsr }

theorem compareOp_flagsFrame (c : Cond) (op2 : Operand2) (f : State → Word → Bool → Alu) (s : State) :
    Ensures (compareOp c op2 f s) (FlagsFrame s) :=
  ensures_ifPassed ⟨rfl, rfl⟩ (ensures_andThen_of_forall fun _ =>
    ensures_next.mpr ⟨statusBelowFlagsSame_setFlags _ s, rfl⟩)

theorem FlagsFrame.reg_eq (h : FlagsFrame s t) (r : Reg) : t.reg r = s.reg r := by rw [h.rest]; rfl

theorem FlagsFrame.memorySame (h : FlagsFrame s t) : MemorySame s t := fun _ => by rw [h.rest]

/-- The carry and overflow flags are as they were (R232). -/
def CarryOverflowSame (s t : State) : Prop := flagC t.cpsr = flagC s.cpsr ∧ flagV t.cpsr = flagV s.cpsr

theorem carryOverflowSame_multiplied (sf : Bool) (v w : Word) (rd : Reg) (s : State) :
    CarryOverflowSame s ((if sf then s.setFlags (multiplied v s.cpsr) else s).setReg rd w) := by
  cases sf with
  | false => exact ⟨rfl, rfl⟩
  | true => exact (flags_withNZCV _ _ _ _ _).2.2

theorem multiplyOp_resultFrame (c : Cond) (sf : Bool) (rd : Reg) (usesPc : Bool) (result : State → Word) (s : State) :
    Ensures (multiplyOp c sf rd usesPc result s) fun t => ResultFrame sf rd s t ∧ CarryOverflowSame s t :=
  ensures_checked (P := fun t => ResultFrame sf rd s t ∧ CarryOverflowSame s t) ⟨.refl sf rd s, rfl, rfl⟩ fun _ =>
    ensures_next.mpr ⟨.resultWritten sf rd _ _ s, carryOverflowSame_multiplied sf _ _ rd s⟩

/-- What an instruction that writes Rd only may change. -/
structure RegisterOnlyFrame (rd : Reg) (s t : State) : Prop where
  regs : RegsSameBut [rd] s t
  rest : t = { s with regs := t.regs }

theorem execMrsCpsr_registerOnlyFrame (c : Cond) (rd : Reg) (s : State) :
    Ensures (execMrsCpsr c rd s) (RegisterOnlyFrame rd s) := by
  have hidle : RegisterOnlyFrame rd s s := ⟨fun _ _ => rfl, rfl⟩
  rw [execMrsCpsr, psrTransfer]
  refine ensures_ifPassed hidle ?_
  split
  · exact ensures_refused _
  · exact ensures_next.mpr ⟨fun r hr => s.reg_setReg_of_ne (List.ne_of_not_mem_cons hr) _, rfl⟩

/-- Settles O17: every instruction of the kind ends in a write of its result, or of its flags, or does nothing. -/
theorem registerInstructionsFrame : Obligations.RegisterInstructionsFrame := by
  unfold Obligations.RegisterInstructionsFrame
  refine ⟨?dataProcessing, ?compare, ?mul, ?mla, ?mrs⟩
  case dataProcessing =>
    intro o c sf rn rd op2 s t hrd h
    rw [exec_dpOp] at h
    obtain ⟨hregs, hbelow, hstatus, hmem, hrest⟩ := dataOp_resultFrame hrd c sf op2 _ s t h
    exact ⟨hregs, hbelow, hstatus, hmem, hrest⟩
  case compare =>
    intro o c rn rd op2 s t h
    rw [exec_cmpOp] at h
    have hframe := compareOp_flagsFrame c op2 _ s t h
    exact ⟨fun r _ => hframe.reg_eq r, hframe.belowFlags, hframe.memorySame, hframe.rest⟩
  case mul =>
    intro c sf rd sbz rs rm s t h
    rw [exec, execMul] at h
    obtain ⟨⟨hregs, hbelow, hstatus, hmem, hrest⟩, hC, hV⟩ := multiplyOp_resultFrame _ _ _ _ _ _ t h
    exact ⟨hregs, hbelow, hstatus, hC, hV, hmem, hrest⟩
  case mla =>
    intro c sf rd rn rs rm s t h
    rw [exec, execMla] at h
    obtain ⟨⟨hregs, hbelow, hstatus, hmem, hrest⟩, hC, hV⟩ := multiplyOp_resultFrame _ _ _ _ _ _ t h
    exact ⟨hregs, hbelow, hstatus, hC, hV, hmem, hrest⟩
  case mrs =>
    intro c rd s t h
    rw [exec] at h
    obtain ⟨hregs, hrest⟩ := execMrsCpsr_registerOnlyFrame c rd s t h
    exact ⟨hregs, fun _ => by rw [hrest], hrest⟩

end Sys2Proof.Machine

/-! PROOFS. PSR transfer and the unrecognised patterns (41_data_processing.md R218 to R224, 46_cp15.md R291). -/

namespace Sys2Proof.Machine

variable {s : State}

theorem psrTransfer_of_ne {c : Cond} {r : Reg} (hc : condHolds s.cpsr c = true) (hr : r ≠ pcReg)
    (body : State → Outcome State) : psrTransfer c r body s = body s := by
  rw [psrTransfer, ifPassed_of_holds hc, if_neg hr]

/-! ### MRS (R219, R220) -/

/-- Settles O18: R15 is refused before the transfer, and the mode decides what the SPSR form reads. -/
theorem mrsReadsStatus : Obligations.MrsReadsStatus := by
  unfold Obligations.MrsReadsStatus
  intro c rd s hc
  refine ⟨fun hrd => ?status, fun b hrd hm hbank => ?saved, fun hrd hno => ?free,
    by rw [exec, execMrsCpsr, psrTransfer_pc hc], by rw [exec, execMrsSpsr, psrTransfer_pc hc]⟩
  case status => rw [exec, execMrsCpsr, psrTransfer_of_ne hc hrd]
  case saved =>
    rw [exec, execMrsSpsr, psrTransfer_of_ne hc hrd, if_pos (State.hasSpsr_of_mode hm), currentSpsrBank_of_exc hbank,
      andThen_next]
  case free =>
    refine ⟨(drawWord s).1, ?_⟩
    rw [exec, execMrsSpsr, psrTransfer_of_ne hc hrd, hno]
    rfl

/-! ### MSR of the CPSR (R221, R222) -/

/-- Settles O19: the flag forms write bits 31:28; the whole form is a write of the status word where the mode allows
it. -/
theorem msrWritesStatus : Obligations.MsrWritesStatus := by
  unfold Obligations.MsrWritesStatus
  constructor
  · intro c s hc
    constructor
    · intro rm hrm
      rw [exec, execMsrCpsrFlgReg, psrTransfer_of_ne hc hrm]
      rfl
    · intro rot imm8
      rw [exec, execMsrCpsrFlgImm, ifPassed_of_holds hc]
      rfl
  · intro c rm s hc hrm
    have hexec : exec (.msrCpsr c rm) s = msrWhole (s.reg rm) s := by
      rw [exec, execMsrCpsr, psrTransfer_of_ne hc hrm]
    rw [hexec, msrWhole]
    refine ⟨fun m hpriv hmode => ?privileged, fun hpriv hmode => ?illegal, fun huser => ?user⟩
    case privileged =>
      rw [if_pos hpriv, writeCpsr_of_mode hmode]
      exact ⟨_, rfl, rfl, switchBank_curBank _ _, switchBank_pf _ _, pc_switchBank _ _, switchBank_mem _ _,
        switchBank_cp15 _ _, switchBank_spsr _ _⟩
    case illegal =>
      rw [if_pos hpriv, writeCpsr, hmode]
    case user =>
      rw [huser]
      rfl

/-! ### MSR of the SPSR (R223) -/

theorem msrSaved_of_mode {b : ExcBank} (hm : s.mode = some b.mode) (hbank : s.curBank = .exc b) (f : Word → Word) :
    msrSaved f s = .next (s.setSpsr b (f (s.spsr.get b))) := by
  rw [msrSaved, if_pos (State.hasSpsr_of_mode hm), currentSpsrBank_of_exc hbank, andThen_next]

theorem msrSaved_of_no_spsr (h : s.hasSpsr = false) (f : Word → Word) : msrSaved f s = .next s := by
  rw [msrSaved, h]
  rfl

/-- Settles O20: the three forms are one change of the saved word of the mode's bank. -/
theorem msrWritesSavedStatus : Obligations.MsrWritesSavedStatus := by
  unfold Obligations.MsrWritesSavedStatus
  intro c rm rot imm8 s hc hrm
  have hwhole : exec (.msrSpsr c rm) s = msrSaved (fun _ => s.reg rm) s := by
    rw [exec, execMsrSpsr, psrTransfer_of_ne hc hrm]
  have hreg : exec (.msrSpsrFlgReg c rm) s = msrSaved (fun old => withFlagBits old (s.reg rm)) s := by
    rw [exec, execMsrSpsrFlgReg, psrTransfer_of_ne hc hrm]
  have himm : exec (.msrSpsrFlgImm c rot imm8) s = msrSaved (fun old => withFlagBits old (rotatedImm rot imm8)) s := by
    rw [exec, execMsrSpsrFlgImm, ifPassed_of_holds hc]
  rw [hwhole, hreg, himm]
  exact ⟨fun b hm hbank => ⟨msrSaved_of_mode hm hbank _, msrSaved_of_mode hm hbank _, msrSaved_of_mode hm hbank _⟩,
    fun hno => ⟨msrSaved_of_no_spsr hno _, msrSaved_of_no_spsr hno _, msrSaved_of_no_spsr hno _⟩⟩

/-! ### Unrecognised patterns (R149, R150, R224, R291) -/

/-- An unrecognised pattern that is well-formed is none of the words of R150 (a). -/
theorem not_bits4And7_of_wellFormed {c : Cond} {imm : Bool} {opLow : BitVec 2} {f19 f15 : BitVec 4} {f11 : BitVec 12}
    (h : WellFormed (.uppTrap c imm opLow f19 f15 f11)) :
    imm = true ∨ f11.getLsbD 4 = false ∨ f11.getLsbD 7 = false := by
  have hbit (i : Nat) : (f11.extractLsb' i 1 == 1#1) = f11.getLsbD i := by
    rw [Bool.eq_iff_iff, beq_iff_eq, BitVec.eq_of_getLsbD_eq_iff]
    simp
  have hnot : isBits4And7Pattern imm f11 = false := by
    simp only [WellFormed, Instr.check, Bool.and_eq_true, Bool.not_eq_true'] at h
    exact h.2
  cases imm
  · rw [isBits4And7Pattern, hbit, hbit, Bool.not_false, Bool.true_and, Bool.and_eq_false_iff] at hnot
    exact .inr hnot
  · exact .inl rfl

/-- A word of the PSR space with bit 25 clear and bits 4 and 7 set that is no swap (R150 a, U4). -/
theorem decodeWord_of_psrBits4And7 {c : Cond} {w : Word} (hcode : Cond.ofCode (fieldOf w 28 4) = some c)
    (h23 : fieldOf w 23 5 = 0b00010#5) (h20 : flagOf w 20 = false) (h4 : flagOf w 4 = true) (h7 : flagOf w 7 = true)
    (hswap : ¬ IsSwapWord w) : decodeWord w = .uppBits4And7 c (fieldOf w 21 2) (fieldOf w 16 4) (fieldOf w 12 4)
      (fieldOf w 8 4) (fieldOf w 5 2) (fieldOf w 0 4) := by
  have h25 : fieldOf w 25 1 = 0#1 := fieldOf_within h23 (k := 2) (by decide)
  have hpsr : IsPsrWord w := ⟨fieldOf_within h23 (k := 3) (by decide), fieldOf_within h23 (k := 0) (by decide),
    fieldOf_eq_zero_of_flagOf h20⟩
  have hbit4 := fieldOf_eq_one_of_flagOf h4
  have hbit7 := fieldOf_eq_one_of_flagOf h7
  have hpattern := mt (isSwapPattern_iff hpsr h25 hbit7 hbit4).mp hswap
  refine decodeWord_of_uppBits4And7 ⟨?_, encode_uppBits4And7_eq_iff.mpr ⟨(Cond.code_of_ofCode hcode).symm,
    hpsr.class00, h25, hpsr.opcode10, rfl, hpsr.flagsKept, rfl, rfl, rfl, hbit7, rfl, hbit4, rfl⟩⟩
  simpa [WellFormed, Instr.check] using hpattern

theorem State.not_priv_of_user (h : s.mode = some .user) : s.priv = false := by
  rw [State.priv, ← Mode.bits_of_ofBits h, bne_self_eq_false]

/-- A coprocessor-15 transfer in User mode is an unrecognised pattern, whatever its register (R291). -/
theorem cp15Transfer_of_user {c : Cond} (hc : condHolds s.cpsr c = true) (h : s.mode = some .user) (rd : Reg)
    (body : State → State) : cp15Transfer c rd body s = .next (raiseUnrecognised s) := by
  rw [cp15Transfer, ifPassed_of_holds hc, State.not_priv_of_user h]
  rfl

/-- Settles O21: the well-formed patterns trap, the words of R150 (a) are decoded as such and refused. -/
theorem unrecognisedPatternsTrap : Obligations.UnrecognisedPatternsTrap := by
  unfold Obligations.UnrecognisedPatternsTrap
  intro c s hc t
  have ht : raiseUnrecognised s = t := rfl
  have hrefused (opLow f5 : BitVec 2) (f19 f15 f8 f0 : BitVec 4) :
      exec (.uppBits4And7 c opLow f19 f15 f8 f5 f0) s = .refused .bits4And7 := by
    rw [exec, execUppBits4And7, ifPassed_of_holds hc]
  rw [← ht]
  refine ⟨fun imm opLow f19 f15 f11 hwf => ⟨not_bits4And7_of_wellFormed hwf, ?trap⟩,
    fun opLow f19 f15 f8 f5 f0 => hrefused opLow f5 f19 f15 f8 f0, fun w hcode h23 h20 h4 h7 hnot => ?word,
    fun huser opc1 crn rd opc2 crm => ?user⟩
  case trap => rw [exec, execUppTrap, ifPassed_of_holds hc]
  case word =>
    have hswap : ¬ IsSwapWord w := fun ⟨_, hlow, hbits⟩ =>
      hnot ⟨flagOf_eq (b := false) (fieldOf_within hlow (k := 1) (by decide)), hbits⟩
    rw [execWord, decodeWord_of_psrBits4And7 hcode h23 h20 h4 h7 hswap]
    exact hrefused _ _ _ _ _ _
  case user =>
    rw [exec, execMrc, cp15Transfer_of_user hc huser, exec, execMcr, cp15Transfer_of_user hc huser]
    exact ⟨rfl, rfl⟩

end Sys2Proof.Machine

/-! PROOFS. MUL and MLA (42_multiply.md R231 to R236). -/

namespace Sys2Proof.Machine

/-! ### The product narrowed to a word (R231, R233) -/

/-- The word product is the product of the unsigned values, narrowed. -/
theorem ofNat_mul_toNat (a b : Word) : BitVec.ofNat 32 (a.toNat * b.toNat) = a * b := by
  rw [BitVec.ofNat_mul, BitVec.ofNat_toNat, BitVec.ofNat_toNat, BitVec.setWidth_eq, BitVec.setWidth_eq]

theorem ofNat_mul_add_toNat (a b n : Word) : BitVec.ofNat 32 (a.toNat * b.toNat + n.toNat) = a * b + n := by
  rw [BitVec.ofNat_add, ofNat_mul_toNat, BitVec.ofNat_toNat, BitVec.setWidth_eq]

/-- The word product is the product of the signed values, narrowed. -/
theorem ofInt_mul_toInt (a b : Word) : BitVec.ofInt 32 (a.toInt * b.toInt) = a * b := by
  rw [BitVec.ofInt_mul, BitVec.ofInt_toInt, BitVec.ofInt_toInt]

theorem ofInt_mul_add_toInt (a b n : Word) : BitVec.ofInt 32 (a.toInt * b.toInt + n.toInt) = a * b + n := by
  rw [BitVec.ofInt_add, ofInt_mul_toInt, BitVec.ofInt_toInt]

/-! ### The instructions under a passing condition -/

variable {s : State} {c : Cond}

theorem multiplyOp_pc (hc : condHolds s.cpsr c = true) (sf : Bool) (rd : Reg) (result : State → Word) :
    multiplyOp c sf rd true result s = .refused .multiplyUsesPc := by
  rw [multiplyOp, ifPassed_of_holds hc, if_pos rfl]

theorem multiplyOp_of_not_usesPc (hc : condHolds s.cpsr c = true) (sf : Bool) (rd : Reg) (result : State → Word) :
    multiplyOp c sf rd false result s =
      .next ((if sf then s.setFlags (multiplied (result s) s.cpsr) else s).setReg rd (result s)) := by
  rw [multiplyOp, ifPassed_of_holds hc, if_neg Bool.false_ne_true]

/-- Settles O22: with R15 among the operands the multiply is refused, and otherwise its result is the word product,
which the narrowed products of the unsigned and of the signed values both are. -/
theorem multiplyIsExact : Obligations.MultiplyIsExact := by
  unfold Obligations.MultiplyIsExact
  intro c sf rd rn rs rm sbz s hc
  rw [ofNat_mul_toNat, ofNat_mul_add_toNat]
  refine ⟨fun hrd hrs hrm => ?mul, fun hrd hrs hrm hrn => ?mla, (ofInt_mul_toInt _ _).symm,
    (ofInt_mul_add_toInt _ _ _).symm, fun hpc => ?mulPc, fun hpc => ?mlaPc⟩
  case mul =>
    have husesPc : (rd == pcReg || rm == pcReg || rs == pcReg) = false := by simp [hrd, hrs, hrm]
    rw [exec, execMul, husesPc, multiplyOp_of_not_usesPc hc]
    rfl
  case mla =>
    have husesPc : (rd == pcReg || rm == pcReg || rs == pcReg || rn == pcReg) = false := by simp [hrd, hrs, hrm, hrn]
    rw [exec, execMla, husesPc, multiplyOp_of_not_usesPc hc]
    rfl
  case mulPc =>
    have husesPc : (rd == pcReg || rm == pcReg || rs == pcReg) = true := by
      rcases hpc with rfl | rfl | rfl <;> simp
    rw [exec, execMul, husesPc, multiplyOp_pc hc]
  case mlaPc =>
    have husesPc : (rd == pcReg || rm == pcReg || rs == pcReg || rn == pcReg) = true := by
      rcases hpc with rfl | rfl | rfl | rfl <;> simp
    rw [exec, execMla, husesPc, multiplyOp_pc hc]

end Sys2Proof.Machine

/-! PROOFS. Single transfer and swap (43_single_transfer_swap.md R241 to R257). -/

namespace Sys2Proof.Machine

variable {s t u : State}

/-! ### The instructions under a passing condition (R242, R245, R255) -/

section
variable {c : Cond} {p u w : Bool} {rn rd rm : Reg} {off : Offset} (hc : condHolds s.cpsr c = true)
include hc

theorem exec_ldr_of_holds (hpc : transferUsesPc p w rn off = false) :
    exec (.ldr c p u w rn rd off) s = loadSingle .word rotateLoaded p u w rn rd off s := by
  rw [exec, execLdr, ifPassed_of_holds hc, hpc, if_neg Bool.false_ne_true]

theorem exec_ldrb_of_holds (hpc : transferUsesPc p w rn off = false) : exec (.ldrb c p u w rn rd off) s =
    if rd = pcReg then .refused .byteLoadToPc else loadSingle .byte (fun _ v => v) p u w rn rd off s := by
  rw [exec, execLdrb, ifPassed_of_holds hc, hpc, if_neg Bool.false_ne_true]

theorem exec_str_of_holds (hpc : transferUsesPc p w rn off = false) :
    exec (.str c p u w rn rd off) s = storeSingle .word p u w rn rd off s := by
  rw [exec, execStr, ifPassed_of_holds hc, hpc, if_neg Bool.false_ne_true]

theorem exec_strb_of_holds (hpc : transferUsesPc p w rn off = false) :
    exec (.strb c p u w rn rd off) s = storeSingle .byte p u w rn rd off s := by
  rw [exec, execStrb, ifPassed_of_holds hc, hpc, if_neg Bool.false_ne_true]

theorem exec_swp_of_holds : exec (.swp c rn rd rm) s =
    if swapUsesPc rn rd rm then .refused .swapUsesPc else swapOp .word rotateLoaded rn rd rm s := by
  rw [exec, execSwp, ifPassed_of_holds hc]

theorem exec_swpb_of_holds : exec (.swpb c rn rd rm) s =
    if swapUsesPc rn rd rm then .refused .swapUsesPc else swapOp .byte (fun _ v => v) rn rd rm s := by
  rw [exec, execSwpb, ifPassed_of_holds hc]

end

theorem swapUsesPc_iff {rn rd rm : Reg} : swapUsesPc rn rd rm = true ↔ rn = pcReg ∨ rd = pcReg ∨ rm = pcReg := by
  simp [swapUsesPc, or_assoc]

theorem swapUsesPc_of_ne {rn rd rm : Reg} (hrn : rn ≠ pcReg) (hrd : rd ≠ pcReg) (hrm : rm ≠ pcReg) :
    ¬ swapUsesPc rn rd rm = true := by
  simp [swapUsesPc_iff, hrn, hrd, hrm]

/-! ### The parts of a transfer -/

/-- The rotation of a word load, by the byte offset of its address (R244). -/
theorem rotateLoaded_eq (addr v : Word) : rotateLoaded addr v = v.rotateRight (8 * (addr.toNat % 4)) := by
  rw [rotateLoaded, ror32, BitVec.extractLsb'_toNat, Nat.shiftRight_zero]

/-- A written-back base takes the target, every other register is left (R248). -/
theorem reg_writeBack (p w : Bool) (rn : Reg) (target : Word) (s : State) (r : Reg) :
    (writeBack p w rn target s).reg r = if r = rn ∧ (!p || w) then target else s.reg r := by
  unfold writeBack transferWritesBack
  by_cases hwb : (!p || w) = true
  · rw [if_pos hwb, State.reg_setReg]
    simp only [hwb, and_true]
  · rw [if_neg hwb, if_neg fun h => hwb h.2]

theorem writeBack_eq (p w : Bool) (rn : Reg) (target : Word) (s : State) :
    writeBack p w rn target s = { s with regs := (writeBack p w rn target s).regs } := by
  unfold writeBack
  split <;> rfl

theorem writeBack_mem (p w : Bool) (rn : Reg) (target : Word) (s : State) :
    (writeBack p w rn target s).mem = s.mem := by
  rw [writeBack_eq]

theorem writeBack_busTrace (p w : Bool) (rn : Reg) (target : Word) (s : State) :
    (writeBack p w rn target s).busTrace = s.busTrace := by
  rw [writeBack_eq]

theorem writeBack_cpsr (p w : Bool) (rn : Reg) (target : Word) (s : State) :
    (writeBack p w rn target s).cpsr = s.cpsr := by
  rw [writeBack_eq]

theorem LoadFrame.writeBack (p w : Bool) (rn : Reg) (target : Word) (s : State) :
    LoadFrame s (writeBack p w rn target s) := LoadFrame.baseWritten (transferWritesBack p w) rn target s

/-- With an empty latch the fault is latched (R336). -/
theorem latchDataFault_of_none (h : s.faultPending = none) (f : FaultCode) :
    latchDataFault f s = s.setFaultPending (some f) := by
  rw [latchDataFault, h]

/-! ### Loads from flat RAM (R243 to R245) -/

/-- A load from flat RAM writes Rd after the base is written back. -/
theorem loadSingle_flatRam (h : s.FlatRam) (n : Size) (convert : Word → Word → Word) (p u w : Bool) (rn rd : Reg)
    (off : Offset) : loadSingle n convert p u w rn rd off s =
      let addr := transferAddress p u rn off s
      writeReg rd (convert addr (s.mem.readSize (accessAddress addr n).toNat n))
        (writeBack p w rn (transferTarget u rn off s) (s.logBus (.read (accessAddress addr n) n))) := by
  rw [loadSingle, memRead_flatRam h, andThen_next]

/-- A load of another register than the program counter: the loaded value wins over the write-back (R253). -/
theorem loadSingle_flatRam_next {rd : Reg} (h : s.FlatRam) (hrd : rd ≠ pcReg) (n : Size)
    (convert : Word → Word → Word) (p u w : Bool) (rn : Reg) (off : Offset) :
    let addr := transferAddress p u rn off s
    ∃ t, loadSingle n convert p u w rn rd off s = .next t ∧
      t.reg rd = convert addr (s.mem.readSize (accessAddress addr n).toNat n) ∧
      (∀ r, r ≠ rd → t.reg r = if r = rn ∧ (!p || w) then transferTarget u rn off s else s.reg r) ∧
      t = { s with regs := t.regs, busTrace := .read (accessAddress addr n) n :: s.busTrace } := by
  intro addr
  rw [loadSingle_flatRam h, writeReg, if_neg hrd]
  refine ⟨_, rfl, State.reg_setReg_self _ _ _, fun r hr => ?_, ?_⟩
  · rw [State.reg_setReg_of_ne _ hr, reg_writeBack]
    rfl
  · rw [writeBack_eq]
    rfl

/-- Settles O36: the program counter is loaded by a jump, every other register by a plain write after the write-back. -/
theorem loadsFromFlatRam : Obligations.LoadsFromFlatRam := by
  unfold Obligations.LoadsFromFlatRam
  refine ⟨?programCounter, ?register⟩
  case programCounter =>
    intro c p u w rn off s hc hflat hpc addr v
    have hload : exec (.ldr c p u w rn 15 off) s = writePc v
        (writeBack p w rn (transferTarget u rn off s) (s.logBus (.read (accessAddress addr .word) .word))) := by
      rw [exec_ldr_of_holds hc hpc, loadSingle_flatRam hflat, writeReg, if_pos rfl, rotateLoaded_eq]
      rfl
    rw [hload]
    refine ⟨fun hv => ⟨_, writePc_aligned hv _, State.pc_setReg_pcReg _ v, rfl, writeBack_cpsr .., writeBack_mem ..,
      fun r hr => ?reg⟩, fun hv => writePc_misaligned hv _, ?byte⟩
    case reg => exact (State.reg_setReg_of_ne _ hr v).trans (reg_writeBack ..)
    case byte => rw [exec_ldrb_of_holds hc hpc, if_pos rfl]
  case register =>
    intro c p u w rn rd off s hc hflat hpc hrd addr aligned
    rw [exec_ldr_of_holds hc hpc, exec_ldrb_of_holds hc hpc, if_neg hrd, ← rotateLoaded_eq]
    exact ⟨loadSingle_flatRam_next hflat hrd .word rotateLoaded p u w rn off,
      loadSingle_flatRam_next hflat hrd .byte (fun _ v => v) p u w rn off⟩

/-! ### Stores to flat RAM (R246, R247) -/

/-- The state after a store to RAM at its own address. -/
def State.stored (s : State) (a : Word) (n : Size) (v : Word) : State :=
  cacheUpdateOnWrite a n v ((s.logBus (.write a n (truncateTo n v))).setMem (s.mem.writeSize a.toNat n v))

theorem stored_mem (s : State) (a : Word) (n : Size) (v : Word) :
    (s.stored a n v).mem = s.mem.writeSize a.toNat n v := rfl

theorem stored_busTrace (s : State) (a : Word) (n : Size) (v : Word) :
    (s.stored a n v).busTrace = .write a n (truncateTo n v) :: s.busTrace := rfl

theorem stored_reg (s : State) (a : Word) (n : Size) (v : Word) (r : Reg) : (s.stored a n v).reg r = s.reg r := rfl

/-- What transfers in flat RAM may change. -/
def FlatFrame (s t : State) : Prop :=
  t = { s with regs := t.regs, mem := t.mem, cache := t.cache, busTrace := t.busTrace }

theorem FlatFrame.trans (h : FlatFrame s t) (h' : FlatFrame t u) : FlatFrame s u := by
  unfold FlatFrame at *
  rw [h', h]

theorem FlatFrame.stored (s : State) (a : Word) (n : Size) (v : Word) : FlatFrame s (s.stored a n v) := rfl

theorem LoadFrame.flatFrame (h : LoadFrame s t) : FlatFrame s t := by
  unfold LoadFrame at h
  unfold FlatFrame
  rw [h]

/-- With the MMU off and RAM everywhere a write succeeds at its own address (R71, R72). -/
theorem memWrite_flatRam (h : s.FlatRam) (va : Word) (n : Size) (v : Word) :
    memWrite va n v s = .next (none, s.stored (accessAddress va n) n v) := by
  have halign : alignmentFault va n s = false :=
    alignmentFault_eq_false_iff.mpr fun ⟨_, _, hon⟩ => absurd hon (by rw [h.alignmentOff]; decide)
  have htag : tagAddress s.params (accessAddress va n) (accessAddress va n) = accessAddress va n := by
    unfold tagAddress
    split <;> rfl
  rw [memWrite, locate_mmuOff halign h.mmuOff, andThen_next]
  simp only [writeThrough_ram (h.ram _), htag, State.stored]

/-- Memory after a word is stored at its aligned address. -/
theorem word_written {m : Memory} {va v : Word} (h : m.wf = true)
    (hmem : t.mem = m.writeSize (accessAddress va .word).toNat .word v) :
    t.mem.readWord (accessAddress va .word).toNat = v ∧
      ∀ a, OutsideAccess (accessAddress va .word) .word a → t.mem.readByte a = m.readByte a := by
  rw [hmem]
  exact ⟨Memory.readWord_writeWord h (end_le_of_aligned (accessAddress_word_aligned va)) v,
    fun a ha => m.readByte_writeSize_outside v ha⟩

/-- Memory after a byte is stored. -/
theorem byte_written {m : Memory} {va v : Word} (h : m.wf = true) (hmem : t.mem = m.writeSize va.toNat .byte v) :
    t.mem.readByte va.toNat = v.extractLsb' 0 8 ∧
      ∀ a, OutsideAccess va .byte a → t.mem.readByte a = m.readByte a := by
  rw [hmem]
  exact ⟨Memory.readByte_writeByte_self h _ _, fun a ha => m.readByte_writeSize_outside v ha⟩

/-- A store to flat RAM: memory written, the base written back, one bus write. -/
theorem storeSingle_flatRam (h : s.FlatRam) (n : Size) (p u w : Bool) (rn rd : Reg) (off : Offset) :
    let a := accessAddress (transferAddress p u rn off s) n
    ∃ t, storeSingle n p u w rn rd off s = .next t ∧ t.mem = s.mem.writeSize a.toNat n (s.reg rd) ∧
      t.busTrace = .write a n (truncateTo n (s.reg rd)) :: s.busTrace ∧
      (∀ r, t.reg r = if r = rn ∧ (!p || w) then transferTarget u rn off s else s.reg r) ∧ FlatFrame s t := by
  intro a
  have hstore : storeSingle n p u w rn rd off s =
      .next (writeBack p w rn (transferTarget u rn off s) (s.stored a n (s.reg rd))) := by
    rw [storeSingle, memWrite_flatRam h, andThen_next]
    rfl
  exact ⟨_, hstore, writeBack_mem .., writeBack_busTrace .., fun r => reg_writeBack ..,
    (FlatFrame.stored s _ _ _).trans (LoadFrame.writeBack ..).flatFrame⟩

/-- Settles O37: the store writes at its own address, and the write-back touches the base alone. -/
theorem storesToFlatRam : Obligations.StoresToFlatRam := by
  unfold Obligations.StoresToFlatRam
  intro c p u w rn rd off s hc hflat hwf hpc addr aligned others
  rw [exec_str_of_holds hc hpc, exec_strb_of_holds hc hpc]
  obtain ⟨t, ht, hmem, htrace, hothers⟩ := storeSingle_flatRam hflat .word p u w rn rd off
  obtain ⟨t', ht', hmem', htrace', hothers'⟩ := storeSingle_flatRam hflat .byte p u w rn rd off
  obtain ⟨hword, houtside⟩ := word_written hwf hmem
  obtain ⟨hbyte, houtside'⟩ := byte_written hwf hmem'
  exact ⟨⟨t, ht, hword, houtside, htrace, hothers⟩, ⟨t', ht', hbyte, houtside', htrace', hothers'⟩⟩

/-! ### Swaps of flat RAM (R255, R256) -/

theorem State.FlatRam.logBus (h : s.FlatRam) (c : BusCall) : (s.logBus c).FlatRam :=
  (LoadFrame.logBus s c).flatRam h

/-- A swap of flat RAM: both accesses go to the same address, and Rd is written last. -/
theorem swapOp_flatRam (h : s.FlatRam) (n : Size) (convert : Word → Word → Word) (rn rd rm : Reg) :
    let a := accessAddress (s.reg rn) n
    ∃ t, swapOp n convert rn rd rm s = .next t ∧ t.reg rd = convert (s.reg rn) (s.mem.readSize a.toNat n) ∧
      t.mem = s.mem.writeSize a.toNat n (s.reg rm) ∧
      t.busTrace = .write a n (truncateTo n (s.reg rm)) :: .read a n :: s.busTrace ∧
      (∀ r, r ≠ rd → t.reg r = s.reg r) ∧ FlatFrame s t := by
  intro a
  have hswap : swapOp n convert rn rd rm s = .next (((s.logBus (.read a n)).stored a n (s.reg rm)).setReg rd
      (convert (s.reg rn) (s.mem.readSize a.toNat n))) := by
    simp only [swapOp, memRead_flatRam h, andThen_next, memWrite_flatRam (h.logBus _), a]
  refine ⟨_, hswap, State.reg_setReg_self _ _ _, ?_, ?_, fun r hr => ?_, ?_⟩
  · rw [State.setReg_mem, stored_mem]
    rfl
  · rw [State.setReg_busTrace, stored_busTrace]
    rfl
  · rw [State.reg_setReg_of_ne _ hr, stored_reg]
    rfl
  · exact ((LoadFrame.logBus s _).flatFrame.trans (.stored ..)).trans (LoadFrame.setReg ..).flatFrame

/-- Settles O38: the word read is the one held before the write, and Rd is written after both accesses. -/
theorem swapsOfFlatRam : Obligations.SwapsOfFlatRam := by
  unfold Obligations.SwapsOfFlatRam
  intro c rn rd rm s hc hflat hwf addr aligned others
  rw [exec_swp_of_holds hc, exec_swpb_of_holds hc]
  refine ⟨fun hrn hrd hrm => ?exchange, fun hpc => ?pc⟩
  case exchange =>
    have hpc := swapUsesPc_of_ne hrn hrd hrm
    rw [if_neg hpc, if_neg hpc, ← rotateLoaded_eq]
    obtain ⟨t, ht, hrd, hmem, htrace, hothers⟩ := swapOp_flatRam hflat .word rotateLoaded rn rd rm
    obtain ⟨t', ht', hrd', hmem', -, hothers'⟩ := swapOp_flatRam hflat .byte (fun _ v => v) rn rd rm
    obtain ⟨hword, houtside⟩ := word_written hwf hmem
    obtain ⟨hbyte, houtside'⟩ := byte_written hwf hmem'
    exact ⟨⟨t, ht, hrd, hword, houtside, htrace, hothers⟩, ⟨t', ht', hrd', hbyte, houtside', hothers'⟩⟩
  case pc =>
    rw [if_pos (swapUsesPc_iff.mpr hpc), if_pos (swapUsesPc_iff.mpr hpc)]
    exact ⟨rfl, rfl⟩

/-! ### Faulting accesses (R249, R257, R336) -/

section
variable {n : Size} {f : FaultCode} {s0 s1 : State} (hnone : s.faultPending = none)
include hnone

theorem latch_after_memRead {va : Word} {x : Reply} (h : memRead va n s = .next (x, s1)) :
    latchDataFault f s1 = s1.setFaultPending (some f) :=
  latchDataFault_of_none ((memRead_frame h).faultPending_eq.trans hnone) f

theorem latch_after_memWrite {va v : Word} {x : Option FaultCode} (h : memWrite va n v s = .next (x, s1)) :
    latchDataFault f s1 = s1.setFaultPending (some f) :=
  latchDataFault_of_none ((memWrite_frame h).faultPending_eq.trans hnone) f

theorem loadSingle_of_fault {p u : Bool} {rn : Reg} {off : Offset}
    (h : memRead (transferAddress p u rn off s) n s = .next (.fault f, s1)) (convert : Word → Word → Word) (w : Bool)
    (rd : Reg) : loadSingle n convert p u w rn rd off s =
      .next (writeBack p w rn (transferTarget u rn off s) (s1.setFaultPending (some f))) := by
  rw [loadSingle, h, andThen_next, ← latch_after_memRead hnone h]

theorem storeSingle_of_fault {p u : Bool} {rn rd : Reg} {off : Offset}
    (h : memWrite (transferAddress p u rn off s) n (s.reg rd) s = .next (some f, s1)) (w : Bool) :
    storeSingle n p u w rn rd off s =
      .next (writeBack p w rn (transferTarget u rn off s) (s1.setFaultPending (some f))) := by
  rw [storeSingle, State.rdpc12, h, andThen_next, ← latch_after_memWrite hnone h]

theorem swapOp_of_read_fault {rn : Reg} (h : memRead (s.reg rn) n s = .next (.fault f, s1))
    (convert : Word → Word → Word) (rd rm : Reg) :
    swapOp n convert rn rd rm s = .next (s1.setFaultPending (some f)) := by
  rw [swapOp, h, andThen_next, ← latch_after_memRead hnone h]

theorem swapOp_of_write_fault {rn rm : Reg} {v : Word} (h : memRead (s.reg rn) n s = .next (.value v, s0))
    (h' : memWrite (s.reg rn) n (s.reg rm) s0 = .next (some f, s1)) (convert : Word → Word → Word) (rd : Reg) :
    swapOp n convert rn rd rm s = .next ((s1.setFaultPending (some f)).setReg rd (convert (s.reg rn) v)) := by
  have hnone0 : s0.faultPending = none := (memRead_frame h).faultPending_eq.trans hnone
  simp only [swapOp, h, andThen_next, h', latch_after_memWrite hnone0 h']

end

/-- Settles O39: the latch is empty before the access and the access leaves it, so it takes the access's fault. -/
theorem faultingTransfersLatchTheFault : Obligations.FaultingTransfersLatchTheFault := by
  unfold Obligations.FaultingTransfersLatchTheFault
  intro c p u w rn rd rm off f s s1 hc hnone addr done
  refine ⟨fun hpc => ?single, fun hrn hrd hrm => ?swap⟩
  case single =>
    rw [exec_ldr_of_holds hc hpc, exec_ldrb_of_holds hc hpc, exec_str_of_holds hc hpc, exec_strb_of_holds hc hpc]
    refine ⟨fun h => loadSingle_of_fault hnone h _ w rd, fun h hrd => ?_, fun h => storeSingle_of_fault hnone h w,
      fun h => storeSingle_of_fault hnone h w⟩
    rw [if_neg hrd]
    exact loadSingle_of_fault hnone h _ w rd
  case swap =>
    have hpc := swapUsesPc_of_ne hrn hrd hrm
    rw [exec_swp_of_holds hc, exec_swpb_of_holds hc, if_neg hpc, if_neg hpc]
    refine ⟨fun h => swapOp_of_read_fault hnone h _ rd rm, fun h => swapOp_of_read_fault hnone h _ rd rm,
      fun v s0 h h' => ?_, fun v s0 h h' => swapOp_of_write_fault hnone h h' _ rd⟩
    rw [← rotateLoaded_eq]
    exact swapOp_of_write_fault hnone h h' _ rd

/-! ### Frames (R243 to R248, R255, R256) -/

/-- What a transfer may change after its accesses: the registers of a list and the fault latch. -/
structure RegisterLatchFrame (rs : List Reg) (s t : State) : Prop where
  regs : RegsSameBut rs s t
  rest : t = { s with regs := t.regs, faultPending := t.faultPending }

section
variable {rs : List Reg}

theorem RegisterLatchFrame.refl (s : State) : RegisterLatchFrame rs s s := ⟨fun _ _ => rfl, rfl⟩

theorem RegisterLatchFrame.trans (h : RegisterLatchFrame rs s t) (h' : RegisterLatchFrame rs t u) :
    RegisterLatchFrame rs s u := by
  refine ⟨fun r hr => (h'.regs r hr).trans (h.regs r hr), ?_⟩
  rw [h'.rest, h.rest]

theorem RegisterLatchFrame.setReg {r : Reg} (h : r ∈ rs) (v : Word) (s : State) :
    RegisterLatchFrame rs s (s.setReg r v) :=
  ⟨fun _ hr => s.reg_setReg_of_ne (ne_of_mem_of_not_mem h hr).symm v, rfl⟩

theorem RegisterLatchFrame.latchDataFault (f : FaultCode) (s : State) :
    RegisterLatchFrame rs s (latchDataFault f s) := by
  unfold Machine.latchDataFault
  split
  · exact .refl s
  · exact ⟨fun _ _ => rfl, rfl⟩

theorem RegisterLatchFrame.writeBack {p w : Bool} {rn : Reg} (h : (!p || w) = true → rn ∈ rs) (target : Word)
    (s : State) : RegisterLatchFrame rs s (writeBack p w rn target s) := by
  unfold Machine.writeBack
  split
  · exact .setReg (h ‹_›) target s
  · exact .refl s

theorem RegisterLatchFrame.mem_eq (h : RegisterLatchFrame rs s t) : t.mem = s.mem := by rw [h.rest]

/-- What a single load may change: what a virtual read may, then registers of a list and the fault latch. -/
def SingleLoadFrame (rs : List Reg) (s t : State) : Prop := ∃ u, ReadFrame s u ∧ RegisterLatchFrame rs u t

theorem SingleLoadFrame.refl (s : State) : SingleLoadFrame rs s s := ⟨s, .refl s, .refl s⟩

theorem SingleLoadFrame.regs (h : SingleLoadFrame rs s t) : RegsSameBut rs s t := by
  obtain ⟨u, hread, hafter⟩ := h
  exact fun r hr => (hafter.regs r hr).trans (hread.reg_eq r)

theorem SingleLoadFrame.rest (h : SingleLoadFrame rs s t) : t = { s with
    regs := t.regs, tlb := t.tlb, tlbNext := t.tlbNext, cache := t.cache, busTrace := t.busTrace
    draws := t.draws, faultPending := t.faultPending } := by
  obtain ⟨u, hread, hafter⟩ := h
  unfold ReadFrame at hread
  rw [hafter.rest, hread]

theorem SingleLoadFrame.memorySame (h : SingleLoadFrame rs s t) : MemorySame s t := fun _ => by rw [h.rest]

/-- What a store or a swap may change: what a virtual write may, then registers of a list and the fault latch. -/
def SingleStoreFrame (rs : List Reg) (s t : State) : Prop := ∃ u, WriteFrame s u ∧ RegisterLatchFrame rs u t

theorem SingleStoreFrame.refl (s : State) : SingleStoreFrame rs s s := ⟨s, .refl s, .refl s⟩

theorem SingleStoreFrame.regs (h : SingleStoreFrame rs s t) : RegsSameBut rs s t := by
  obtain ⟨u, hwrite, hafter⟩ := h
  exact fun r hr => (hafter.regs r hr).trans (hwrite.reg_eq r)

theorem SingleStoreFrame.rest (h : SingleStoreFrame rs s t) : t = { s with
    regs := t.regs, tlb := t.tlb, tlbNext := t.tlbNext, cache := t.cache, busTrace := t.busTrace
    draws := t.draws, mem := t.mem, halted := t.halted, faultPending := t.faultPending } := by
  obtain ⟨u, hwrite, hafter⟩ := h
  unfold WriteFrame at hwrite
  rw [hafter.rest, hwrite]

end

/-- Every byte outside the place of a write to `va`, located in the state `s0`, reads in `t` as in `s`. -/
def OutsideKept (va : Word) (n : Size) (s0 s t : State) : Prop :=
  ∀ q, locate va n true s0 = .next q → ∀ a, (∀ pa, q.1.target = some pa → OutsideAccess pa n a) →
    t.mem.readByte a = s.mem.readByte a

theorem outsideKept_of_mem_eq {va : Word} {n : Size} {s0 : State} (h : t.mem = s.mem) : OutsideKept va n s0 s t :=
  fun _ _ _ _ => by rw [h]

theorem outsideKept_memWrite {va v : Word} {n : Size} {m : Option FaultCode × State}
    (h : memWrite va n v s = .next m) (hmem : t.mem = m.2.mem) : OutsideKept va n s s t := by
  intro q hq a ha
  rw [hmem]
  exact memWrite_outside h hq ha

/-- A load changes Rd and the written-back base. -/
theorem loadSingle_frame {p w : Bool} {rn rd : Reg} (hrd : rd ≠ pcReg) (n : Size) (convert : Word → Word → Word)
    (u : Bool) (off : Offset) (s : State) : Ensures (loadSingle n convert p u w rn rd off s)
      (SingleLoadFrame (if !p || w then [rd, rn] else [rd]) s) := by
  have hbase : (!p || w) = true → rn ∈ if !p || w then [rd, rn] else [rd] := fun h => by simp [h]
  have hdest : rd ∈ if !p || w then [rd, rn] else [rd] := by split <;> simp
  have hread : Ensures (memRead (transferAddress p u rn off s) n s) (ReadFrame s ·.2) := fun _ h => memRead_frame h
  refine hread.andThen fun m hm => ?_
  split
  · exact ensures_next.mpr ⟨m.2, hm, (RegisterLatchFrame.latchDataFault _ _).trans (.writeBack hbase _ _)⟩
  · rw [writeReg, if_neg hrd]
    exact ensures_next.mpr ⟨m.2, hm, (RegisterLatchFrame.writeBack hbase _ _).trans (.setReg hdest _ _)⟩

/-- A store changes the written-back base, and memory where it is located. -/
theorem storeSingle_frame (n : Size) (p u w : Bool) (rn rd : Reg) (off : Offset) (s : State) :
    Ensures (storeSingle n p u w rn rd off s) fun t => SingleStoreFrame (if !p || w then [rn] else []) s t ∧
      OutsideKept (transferAddress p u rn off s) n s s t := by
  have hbase : (!p || w) = true → rn ∈ if !p || w then [rn] else [] := fun h => by simp [h]
  intro t ht
  obtain ⟨m, hm, ht⟩ := andThen_eq_next.mp ht
  have hafter : RegisterLatchFrame (if !p || w then [rn] else []) m.2 t := by
    split at ht <;> cases ht
    · exact (RegisterLatchFrame.latchDataFault _ _).trans (.writeBack hbase _ _)
    · exact .writeBack hbase _ _
  exact ⟨⟨m.2, memWrite_frame hm, hafter⟩, outsideKept_memWrite hm hafter.mem_eq⟩

/-- A swap changes Rd, and memory where its write is located in the state its read leaves. -/
theorem swapOp_frame (n : Size) (convert : Word → Word → Word) (rn rd rm : Reg) (s : State) :
    Ensures (swapOp n convert rn rd rm s) fun t => SingleStoreFrame [rd] s t ∧
      ∀ m, memRead (s.reg rn) n s = .next m → OutsideKept (s.reg rn) n m.2 s t := by
  have hdest : rd ∈ [rd] := List.mem_singleton_self rd
  intro t ht
  obtain ⟨m, hm, ht⟩ := andThen_eq_next.mp ht
  have hread := memRead_frame hm
  rw [hm]
  split at ht
  · cases ht
    have hafter (f : FaultCode) : RegisterLatchFrame [rd] m.2 (latchDataFault f m.2) := .latchDataFault f m.2
    exact ⟨⟨m.2, hread.writeFrame, hafter _⟩,
      fun _ _ => outsideKept_of_mem_eq ((hafter _).mem_eq.trans hread.mem_eq)⟩
  · obtain ⟨m', hm', ht⟩ := andThen_eq_next.mp ht
    have hafter : RegisterLatchFrame [rd] m'.2 t := by
      split at ht <;> cases ht
      · exact (RegisterLatchFrame.latchDataFault _ _).trans (.setReg hdest _ _)
      · exact .setReg hdest _ _
    refine ⟨⟨m'.2, hread.writeFrame.trans (memWrite_frame hm'), hafter⟩, ?_⟩
    rintro _ ⟨⟩ q hq a ha
    rw [outsideKept_memWrite hm' hafter.mem_eq q hq a ha, hread.mem_eq]

/-- A load of a byte refuses the program counter before it reads (U8). -/
theorem execLdrb_frame (c : Cond) (p u w : Bool) (rn rd : Reg) (off : Offset) (s : State) :
    Ensures (execLdrb c p u w rn rd off s) (SingleLoadFrame (if !p || w then [rd, rn] else [rd]) s) := by
  refine ensures_checked (.refl s) fun _ => ?_
  split
  · exact ensures_refused _
  · exact loadSingle_frame ‹_› .byte _ u off s

/-- Settles O40: each instruction is its accesses, whose frames are those of a virtual read and write, and then register
writes and the fault latch. -/
theorem singleTransferFrame : Obligations.SingleTransferFrame := by
  unfold Obligations.SingleTransferFrame
  refine ⟨?load, ?store⟩
  case load =>
    intro c p u w rn rd off s t hrd h
    have hframe : SingleLoadFrame (if !p || w then [rd, rn] else [rd]) s t := by
      rcases h with h | h
      · exact ensures_checked (.refl s) (fun _ => loadSingle_frame hrd .word _ u off s) t h
      · exact execLdrb_frame c p u w rn rd off s t h
    exact ⟨hframe.regs, hframe.memorySame, hframe.rest⟩
  case store =>
    intro c p u w rn rd rm off s t rest
    have hidle {va : Word} {n : Size} {s0 : State} : OutsideKept va n s0 s s := outsideKept_of_mem_eq rfl
    refine ⟨fun h => ?str, fun h => ?strb, fun h => ?swp, fun h => ?swpb⟩
    case str =>
      obtain ⟨hframe, hkept⟩ :=
        ensures_checked ⟨.refl s, hidle⟩ (fun _ => storeSingle_frame .word p u w rn rd off s) t h
      exact ⟨hframe.regs, hframe.rest, hkept⟩
    case strb =>
      obtain ⟨hframe, hkept⟩ :=
        ensures_checked ⟨.refl s, hidle⟩ (fun _ => storeSingle_frame .byte p u w rn rd off s) t h
      exact ⟨hframe.regs, hframe.rest, hkept⟩
    case swp =>
      obtain ⟨hframe, hkept⟩ :=
        ensures_checked ⟨.refl s, fun _ _ => hidle⟩ (fun _ => swapOp_frame .word _ rn rd rm s) t h
      exact ⟨hframe.regs, hframe.rest, fun m q hm => hkept m hm q⟩
    case swpb =>
      obtain ⟨hframe, hkept⟩ :=
        ensures_checked ⟨.refl s, fun _ _ => hidle⟩ (fun _ => swapOp_frame .byte _ rn rd rm s) t h
      exact ⟨hframe.regs, hframe.rest, fun m q hm => hkept m hm q⟩

end Sys2Proof.Machine

/-! PROOFS. Block transfers (44_block_transfer.md R260 to R273): the addresses of the words, the user-bank transfer, and
what LDM and STM do in flat RAM, on a fault and in every state of the MMU. -/

namespace Sys2Proof.Machine

variable {s t u : State}

/-! ### The instructions under a passing condition (R261, R263, R264) -/

theorem mem_registersOf {list : BitVec 16} {r : Reg} : r ∈ registersOf list ↔ list.getLsbD r.val = true := by
  have hall : ∀ r : Reg, r ∈ ([0, 1, 2, 3, 4, 5, 6, 7, 8, 9, 10, 11, 12, 13, 14, 15] : List Reg) := by decide
  simp only [registersOf, List.mem_filter, hall r, true_and]

theorem not_mem_registersOf {list : BitVec 16} {r : Reg} : r ∉ registersOf list ↔ list.getLsbD r.val = false := by
  rw [mem_registersOf, Bool.not_eq_true]

theorem registersOf_length_le (list : BitVec 16) : (registersOf list).length ≤ 16 := List.length_filter_le _ _

/-- A list that is not empty names a register. -/
theorem registersOf_ne_nil {list : BitVec 16} (h : list ≠ 0#16) : registersOf list ≠ [] := by
  intro hnil
  refine h (BitVec.eq_of_getLsbD_eq fun i hi => ?_)
  have hnot : (⟨i, hi⟩ : Reg) ∉ registersOf list := by rw [hnil]; exact List.not_mem_nil
  rw [not_mem_registersOf.mp hnot, BitVec.getLsbD_zero]

/-- A list that names a register is not empty. -/
theorem list_ne_zero_of_mem {list : BitVec 16} {r : Reg} (h : list.getLsbD r.val = true) : list ≠ 0#16 := by
  rintro rfl
  rw [BitVec.getLsbD_zero] at h
  cases h

/-- A block transfer that is not refused has a list, another base than the program counter, and no write-back in a
user-bank transfer (U9, U10). -/
theorem blockRefusal_eq_none_iff {rn : Reg} {list : BitVec 16} {userBank w : Bool} :
    blockRefusal rn list userBank w = none ↔ list ≠ 0#16 ∧ rn ≠ pcReg ∧ (userBank && w) = false := by
  unfold blockRefusal
  split_ifs <;> simp_all

section
variable {c : Cond} {p u sb w : Bool} {rn : Reg} {list : BitVec 16}

theorem exec_ldm_of_holds (hc : condHolds s.cpsr c = true) (hlist : list ≠ 0#16) (hrn : rn ≠ pcReg)
    (hw : ((sb && !list.getLsbD 15) && w) = false) :
    exec (.ldm c p u sb w rn list) s = loadMultiple p u sb w rn list s := by
  rw [exec, execLdm, ifPassed_of_holds hc, blockRefusal_eq_none_iff.mpr ⟨hlist, hrn, hw⟩]

theorem exec_stm_of_holds (hc : condHolds s.cpsr c = true) (hlist : list ≠ 0#16) (hrn : rn ≠ pcReg)
    (hw : (sb && w) = false) : exec (.stm c p u sb w rn list) s = storeMultiple p u sb w rn list s := by
  rw [exec, execStm, ifPassed_of_holds hc, blockRefusal_eq_none_iff.mpr ⟨hlist, hrn, hw⟩]

/-- A block transfer that answers did nothing, or ran its body in one of the forms that are not refused. -/
theorem blockChecked_cases {userBank : Bool} {body : State → Outcome State} (h : ifPassed c s (fun s =>
    match blockRefusal rn list userBank w with
    | some r => .refused r
    | none => body s) = .next t) : t = s ∨ rn ≠ pcReg ∧ (userBank && w) = false ∧ body s = .next t := by
  unfold ifPassed at h
  split at h
  · split at h
    · cases h
    · obtain ⟨-, hrn, hw⟩ := blockRefusal_eq_none_iff.mp ‹_›
      exact .inr ⟨hrn, hw, h⟩
  · cases h
    exact .inl rfl

theorem exec_ldm_cases (h : exec (.ldm c p u sb w rn list) s = .next t) : t = s ∨
    rn ≠ pcReg ∧ ((sb && !list.getLsbD 15) && w) = false ∧ loadMultiple p u sb w rn list s = .next t :=
  blockChecked_cases h

theorem exec_stm_cases (h : exec (.stm c p u sb w rn list) s = .next t) : t = s ∨
    rn ≠ pcReg ∧ (sb && w) = false ∧ storeMultiple p u sb w rn list s = .next t :=
  blockChecked_cases h

end

/-! ### The slots of a transfer (R261, R262) -/

/-- The registers of a transfer beside the addresses of their words, from `addr` on. -/
def slots : List Reg → Word → List (Reg × Word)
  | [], _ => []
  | r :: rest, addr => (r, addr) :: slots rest (addr + 4#32)

/-- In a list in increasing number the address of a register follows from how many are lower. -/
theorem slots_eq_map {rs : List Reg} (h : rs.Pairwise (· < ·)) (addr : Word) :
    slots rs addr = rs.map fun r => (r, addr + BitVec.ofNat 32 (4 * (rs.filter (· < r)).length)) := by
  induction rs generalizing addr with
  | nil => rfl
  | cons x rest ih =>
    obtain ⟨hx, hrest⟩ := List.pairwise_cons.mp h
    have hnone : (x :: rest).filter (· < x) = [] := by
      simp only [List.filter_eq_nil_iff, List.mem_cons, decide_eq_true_eq]
      rintro r (rfl | hr)
      · exact lt_irrefl r
      · exact (hx r hr).asymm
    rw [slots, ih hrest, List.map_cons, hnone]
    refine congrArg₂ List.cons (by simp) (List.map_congr_left fun r hr => ?_)
    have hlower : (x :: rest).filter (· < r) = x :: rest.filter (· < r) :=
      List.filter_cons_of_pos (decide_eq_true (hx r hr))
    rw [hlower, List.length_cons, Nat.mul_succ, Nat.add_comm, BitVec.ofNat_add, BitVec.add_assoc]

theorem slots_registersOf (p u : Bool) (base : Word) (list : BitVec 16) :
    slots (registersOf list) (blockStart p u base list) =
      (registersOf list).map fun r => (r, slotAddress p u base list r) :=
  slots_eq_map (registersOf_sorted list) _

theorem mem_slots {rs : List Reg} {addr : Word} {q : Reg × Word} (h : q ∈ slots rs addr) :
    ∃ k < rs.length, q.2 = addr + BitVec.ofNat 32 (4 * k) := by
  induction rs generalizing addr with
  | nil => cases h
  | cons x rest ih =>
    rcases List.mem_cons.mp h with rfl | h
    · exact ⟨0, by simp, by simp⟩
    · obtain ⟨k, hk, hq⟩ := ih h
      refine ⟨k + 1, by simpa using hk, ?_⟩
      rw [hq, Nat.mul_succ, Nat.add_comm, BitVec.ofNat_add, BitVec.add_assoc]

theorem accessAddress_word_toNat (va : Word) : (accessAddress va .word).toNat = va.toNat / 4 * 4 := by
  have hva := va.isLt
  have happend : accessAddress va .word = va.extractLsb' 2 30 ++ 0#2 := by
    have h := maskedOr_eq_append (h := 30) (k := 2) rfl va 0#32
    simpa [accessAddress] using h
  rw [happend]
  refine (BitVec.toNat_append _ _).trans ?_
  rw [BitVec.extractLsb'_toNat, BitVec.toNat_ofNat, Nat.zero_mod, Nat.or_zero, Nat.shiftLeft_eq,
    Nat.shiftRight_eq_div_pow]
  omega

/-- The words of a transfer lie at different places. -/
theorem slots_apart {rs : List Reg} (h : rs.length ≤ 16) (addr : Word) : (slots rs addr).Pairwise fun q q' =>
    accessAddress q.2 .word ≠ accessAddress q'.2 .word := by
  induction rs generalizing addr with
  | nil => exact .nil
  | cons x rest ih =>
    rw [List.length_cons] at h
    refine List.pairwise_cons.mpr ⟨fun q hq heq => ?_, ih (by omega) _⟩
    obtain ⟨k, hk, hq⟩ := mem_slots hq
    have haddr := addr.isLt
    have hplace : (accessAddress addr .word).toNat = (accessAddress q.2 .word).toNat := congrArg BitVec.toNat heq
    rw [accessAddress_word_toNat, accessAddress_word_toNat, hq, BitVec.toNat_add, BitVec.toNat_add, BitVec.toNat_ofNat,
      BitVec.toNat_ofNat] at hplace
    omega

/-! ### The user-bank transfer (R268) -/

/-- The bank of the instruction is live again after a user-bank transfer from `s` to `t`. -/
def transferBack (userBank : Bool) (s t : State) : State := if userBank then switchBank s.curBank t else t

/-- The base register after the write-back, where there is one. -/
def baseWritten (w : Bool) (rn : Reg) (final : Word) (s : State) : State := if w then s.setReg rn final else s

theorem loadMultiple_eq (p u sb w : Bool) (rn : Reg) (list : BitVec 16) (s : State) :
    loadMultiple p u sb w rn list s =
      let userBank := sb && !list.getLsbD 15
      let final := blockFinal u (s.reg rn) list
      andThen (loadRegisters (registersOf list) (blockStart p u (s.reg rn) list)
        (transferView userBank (baseWritten w rn final s)))
        fun m => finishLoad sb w rn list (s.reg rn) final m.1 (transferBack userBank s m.2) := rfl

theorem storeMultiple_eq (p u sb w : Bool) (rn : Reg) (list : BitVec 16) (s : State) :
    storeMultiple p u sb w rn list s =
      andThen (storeRegisters (registersOf list) (blockStart p u (s.reg rn) list)
        (if w && !sb then some (rn, blockFinal u (s.reg rn) list) else none) (transferView sb s))
        fun t => .next (transferBack sb s t) := rfl

theorem reg_baseWritten (w : Bool) (rn : Reg) (final : Word) (s : State) (r : Reg) :
    (baseWritten w rn final s).reg r = if r = rn ∧ w then final else s.reg r := by
  cases w
  · simp [baseWritten]
  · simp [baseWritten, State.reg_setReg]

/-- Bank, shadow slots and FIQ shadows are as before. -/
structure SameBanks (s t : State) : Prop where
  curBank : t.curBank = s.curBank
  bankR13 : t.bankR13 = s.bankR13
  bankR14 : t.bankR14 = s.bankR14
  fiqShadow0 : t.fiqShadow0 = s.fiqShadow0
  fiqShadow1 : t.fiqShadow1 = s.fiqShadow1

theorem SameBanks.setReg (r : Reg) (v : Word) (s : State) : SameBanks s (s.setReg r v) := ⟨rfl, rfl, rfl, rfl, rfl⟩

theorem SameBanks.trans (h : SameBanks s t) (h' : SameBanks t u) : SameBanks s u :=
  ⟨h'.curBank.trans h.curBank, h'.bankR13.trans h.bankR13, h'.bankR14.trans h.bankR14,
    h'.fiqShadow0.trans h.fiqShadow0, h'.fiqShadow1.trans h.fiqShadow1⟩

theorem SameBanks.baseWritten (w : Bool) (rn : Reg) (final : Word) (s : State) :
    SameBanks s (baseWritten w rn final s) := by
  cases w
  · exact ⟨rfl, rfl, rfl, rfl, rfl⟩
  · exact .setReg rn final s

/-- With the banks as before a switch shows as before a register that is as before. -/
theorem SameBanks.reg_switchBank (h : SameBanks s t) {r : Reg} (hreg : t.reg r = s.reg r) (nb : Bank) :
    (switchBank nb t).reg r = (switchBank nb s).reg r :=
  reg_switchBank_congr hreg h.curBank h.bankR13 h.bankR14 h.fiqShadow0 h.fiqShadow1 nb

theorem SameBanks.reg_transferView (h : SameBanks s t) {r : Reg} (hreg : t.reg r = s.reg r) (userBank : Bool) :
    (transferView userBank t).reg r = (transferView userBank s).reg r := by
  cases userBank
  · exact hreg
  · exact h.reg_switchBank hreg .main

/-- The registers of a transfer after its base is written back: a user-bank transfer has no write-back (U10). -/
theorem reg_transferView_baseWritten {userBank w : Bool} (h : (userBank && w) = false) (rn : Reg) (final : Word)
    (s : State) (r : Reg) : (transferView userBank (baseWritten w rn final s)).reg r =
      if r = rn ∧ w then final else (transferView userBank s).reg r := by
  cases userBank with
  | false => exact reg_baseWritten w rn final s r
  | true =>
    rw [Bool.true_and] at h
    subst h
    exact (if_neg fun h => Bool.false_ne_true h.2).symm

theorem transferView_frame (userBank : Bool) (s : State) : transferView userBank s = { s with
    regs := (transferView userBank s).regs, curBank := (transferView userBank s).curBank
    bankR13 := (transferView userBank s).bankR13, bankR14 := (transferView userBank s).bankR14
    fiqShadow0 := (transferView userBank s).fiqShadow0, fiqShadow1 := (transferView userBank s).fiqShadow1 } := by
  cases userBank
  · rfl
  · exact switchBank_frame .main s

theorem transferBack_frame (userBank : Bool) (s t : State) : transferBack userBank s t = { t with
    regs := (transferBack userBank s t).regs, curBank := (transferBack userBank s t).curBank
    bankR13 := (transferBack userBank s t).bankR13, bankR14 := (transferBack userBank s t).bankR14
    fiqShadow0 := (transferBack userBank s t).fiqShadow0, fiqShadow1 := (transferBack userBank s t).fiqShadow1 } := by
  cases userBank
  · rfl
  · exact switchBank_frame s.curBank t

section
variable {userBank : Bool}

/-- What a transfer moved is seen again from the bank it was moved in. -/
theorem reg_transferView_transferBack (h : SameBanks (transferView userBank s) t) (r : Reg) :
    (transferView userBank (transferBack userBank s t)).reg r = t.reg r := by
  cases userBank with
  | false => rfl
  | true =>
    have hmain : t.curBank = .main := h.curBank.trans (switchBank_curBank .main s)
    have hback := reg_switchBank_back s.curBank t r
    rwa [hmain] at hback

/-- A register a transfer left in its bank is as before in the mode's. -/
theorem reg_transferBack (h : SameBanks (transferView userBank s) t) {r : Reg}
    (hreg : t.reg r = (transferView userBank s).reg r) : (transferBack userBank s t).reg r = s.reg r := by
  cases userBank with
  | false => exact hreg
  | true => exact (h.reg_switchBank hreg s.curBank).trans (reg_switchBank_back .main s r)

theorem transferBack_curBank (h : SameBanks (transferView userBank s) t) :
    (transferBack userBank s t).curBank = s.curBank := by
  cases userBank with
  | false => exact h.curBank
  | true => exact switchBank_curBank _ _

end

/-! ### What the loads of a block transfer change (R263) -/

/-- What loads of the registers of a list may change: those registers, the prefetch queue with the program counter, the
fault latch, and what virtual reads may. -/
structure BlockLoadFrame (rs : List Reg) (s t : State) : Prop where
  regs : RegsSameBut rs s t
  pf : pcReg ∉ rs → t.pf = s.pf
  rest : t = { s with regs := t.regs, pf := t.pf, tlb := t.tlb, tlbNext := t.tlbNext, cache := t.cache
                      busTrace := t.busTrace, draws := t.draws, faultPending := t.faultPending }

section
variable {rs : List Reg}

theorem BlockLoadFrame.refl (s : State) : BlockLoadFrame rs s s := ⟨fun _ _ => rfl, fun _ => rfl, rfl⟩

theorem BlockLoadFrame.trans (h : BlockLoadFrame rs s t) (h' : BlockLoadFrame rs t u) : BlockLoadFrame rs s u := by
  refine ⟨fun r hr => (h'.regs r hr).trans (h.regs r hr), fun hpc => (h'.pf hpc).trans (h.pf hpc), ?_⟩
  rw [h'.rest, h.rest]

theorem BlockLoadFrame.setReg {r : Reg} (h : r ∈ rs) (v : Word) (s : State) : BlockLoadFrame rs s (s.setReg r v) :=
  ⟨fun _ hr => s.reg_setReg_of_ne (ne_of_mem_of_not_mem h hr).symm v, fun _ => rfl, rfl⟩

theorem BlockLoadFrame.latchDataFault (f : FaultCode) (s : State) : BlockLoadFrame rs s (latchDataFault f s) := by
  unfold Machine.latchDataFault
  split
  · exact .refl s
  · exact ⟨fun _ _ => rfl, fun _ => rfl, rfl⟩

theorem BlockLoadFrame.of_readFrame (h : ReadFrame s t) : BlockLoadFrame rs s t := by
  refine ⟨fun r _ => h.reg_eq r, fun _ => h.pf_eq, ?_⟩
  unfold ReadFrame at h
  rw [h]

theorem BlockLoadFrame.sameBanks (h : BlockLoadFrame rs s t) : SameBanks s t := by
  rw [h.rest]
  exact ⟨rfl, rfl, rfl, rfl, rfl⟩

theorem BlockLoadFrame.cpsr_eq (h : BlockLoadFrame rs s t) : t.cpsr = s.cpsr := by rw [h.rest]

theorem writeReg_blockLoadFrame {r : Reg} (h : r ∈ rs) (v : Word) (s : State) :
    Ensures (writeReg r v s) (BlockLoadFrame rs s) := by
  unfold writeReg writePc
  split
  · subst r
    split
    · exact ensures_next.mpr ⟨(BlockLoadFrame.setReg h v s).regs, fun hpc => absurd h hpc, rfl⟩
    · exact ensures_refused _
  · exact ensures_next.mpr (.setReg h v s)

theorem loadRegisters_frame {low : List Reg} (h : low ⊆ rs) (addr : Word) (s : State) :
    Ensures (loadRegisters low addr s) (BlockLoadFrame rs s ·.2) := by
  induction low generalizing addr s with
  | nil => exact ensures_next.mpr (.refl s)
  | cons r rest ih =>
    obtain ⟨hr, hrest⟩ := List.cons_subset.mp h
    have hread : Ensures (memRead addr .word s) (ReadFrame s ·.2) := fun _ hm => memRead_frame hm
    refine hread.andThen fun m hm => ?_
    split
    · exact ensures_next.mpr ((BlockLoadFrame.of_readFrame hm).trans (.latchDataFault _ _))
    · exact (writeReg_blockLoadFrame hr _ m.2).andThen fun s1 hs1 =>
        (ih hrest _ s1).imp fun _ ht => ((BlockLoadFrame.of_readFrame hm).trans hs1).trans ht

end

/-! ### What no LDM changes (R263, R270) -/

/-- What an LDM leaves unchanged in all its forms, the bank switches and the CPSR restore included. -/
structure LdmFrame (rs : List Reg) (s t : State) : Prop where
  mem : t.mem = s.mem
  spsr : t.spsr = s.spsr
  cp15 : t.cp15 = s.cp15
  processorId : t.processorId = s.processorId
  halted : t.halted = s.halted
  params : t.params = s.params
  pf : pcReg ∉ rs → t.pf = s.pf
  low : ∀ r : Reg, r < 8 → r ∉ rs → t.reg r = s.reg r

section
variable {rs : List Reg}

theorem LdmFrame.refl (s : State) : LdmFrame rs s s :=
  ⟨rfl, rfl, rfl, rfl, rfl, rfl, fun _ => rfl, fun _ _ _ => rfl⟩

theorem LdmFrame.trans (h : LdmFrame rs s t) (h' : LdmFrame rs t u) : LdmFrame rs s u where
  mem := h'.mem.trans h.mem
  spsr := h'.spsr.trans h.spsr
  cp15 := h'.cp15.trans h.cp15
  processorId := h'.processorId.trans h.processorId
  halted := h'.halted.trans h.halted
  params := h'.params.trans h.params
  pf hpc := (h'.pf hpc).trans (h.pf hpc)
  low r hlow hr := (h'.low r hlow hr).trans (h.low r hlow hr)

theorem BlockLoadFrame.ldmFrame (h : BlockLoadFrame rs s t) : LdmFrame rs s t := by
  have hregs : ∀ r : Reg, r < 8 → r ∉ rs → t.reg r = s.reg r := fun r _ => h.regs r
  have hrest := h.rest
  exact ⟨by rw [hrest], by rw [hrest], by rw [hrest], by rw [hrest], by rw [hrest], by rw [hrest], h.pf, hregs⟩

theorem LdmFrame.switchBank (nb : Bank) (s : State) : LdmFrame rs s (switchBank nb s) where
  mem := switchBank_mem nb s
  spsr := switchBank_spsr nb s
  cp15 := switchBank_cp15 nb s
  processorId := switchBank_processorId nb s
  halted := switchBank_halted nb s
  params := switchBank_params nb s
  pf _ := switchBank_pf nb s
  low _ hlow _ := reg_switchBank_unbanked nb s (.inl hlow)

theorem LdmFrame.setCpsr (v : Word) (s : State) : LdmFrame rs s (s.setCpsr v) :=
  ⟨rfl, rfl, rfl, rfl, rfl, rfl, fun _ => rfl, fun _ _ _ => rfl⟩

theorem LdmFrame.baseWritten {w : Bool} {rn : Reg} (h : rn ∈ rs) (final : Word) (s : State) :
    LdmFrame rs s (baseWritten w rn final s) := by
  cases w
  · exact .refl s
  · exact (BlockLoadFrame.setReg h final s).ldmFrame

theorem LdmFrame.transferView (userBank : Bool) (s : State) : LdmFrame rs s (transferView userBank s) := by
  cases userBank
  · exact .refl s
  · exact .switchBank .main s

theorem LdmFrame.transferBack (userBank : Bool) (s t : State) : LdmFrame rs t (transferBack userBank s t) := by
  cases userBank
  · exact .refl t
  · exact .switchBank s.curBank t

theorem restoreCpsr_ldmFrame (s : State) : Ensures (restoreCpsr s) (LdmFrame rs s) := by
  refine ensures_andThen_of_forall fun b => ?_
  unfold writeCpsr
  split
  · exact ensures_next.mpr (((LdmFrame.setCpsr _ s).trans (.switchBank _ _)).trans (.setCpsr _ _))
  · exact ensures_refused _

theorem finishLoad_ldmFrame {rn : Reg} (h : rn ∈ rs) (sb w : Bool) (list : BitVec 16) (base final : Word)
    (aborted : Bool) (s : State) : Ensures (finishLoad sb w rn list base final aborted s) (LdmFrame rs s) := by
  unfold finishLoad
  split
  · exact ensures_next.mpr (BlockLoadFrame.setReg h _ s).ldmFrame
  · split
    · exact restoreCpsr_ldmFrame s
    · exact ensures_next.mpr (.refl s)

end

theorem loadMultiple_ldmFrame (p u sb w : Bool) (rn : Reg) (list : BitVec 16) (s : State) :
    Ensures (loadMultiple p u sb w rn list s) (LdmFrame (rn :: registersOf list) s) := by
  have hrn : rn ∈ rn :: registersOf list := List.mem_cons_self
  rw [loadMultiple_eq]
  refine (loadRegisters_frame (List.subset_cons_self rn _) _ _).andThen fun m hm => ?_
  refine (finishLoad_ldmFrame hrn sb w list _ _ m.1 _).imp fun t ht => ?_
  exact ((((LdmFrame.baseWritten hrn _ s).trans (.transferView ..)).trans hm.ldmFrame).trans
    (.transferBack ..)).trans ht

/-! ### LDM in the mode's own bank (R263, R270) -/

theorem State.hasSpsr_congr (h : t.cpsr = s.cpsr) : t.hasSpsr = s.hasSpsr := by
  rw [State.hasSpsr, State.modeBits, h]
  rfl

/-- The base is written to its old value by an aborted LDM without write-back (R266). -/
theorem BlockLoadFrame.setBase {rs : List Reg} (h : BlockLoadFrame rs s t) (rn : Reg) :
    BlockLoadFrame rs s (t.setReg rn (s.reg rn)) := by
  refine ⟨fun r hr => ?_, h.pf, ?_⟩
  · rw [State.reg_setReg]
    split
    · rw [‹r = rn›]
    · exact h.regs r hr
  · rw [State.setReg, h.rest]

/-- The registers an LDM in the mode's own bank may write: those listed and a written-back base. -/
def ldmWrites (w : Bool) (rn : Reg) (list : BitVec 16) : List Reg :=
  if w then rn :: registersOf list else registersOf list

theorem registersOf_subset_ldmWrites (w : Bool) (rn : Reg) (list : BitVec 16) :
    registersOf list ⊆ ldmWrites w rn list := by
  cases w
  · exact List.Subset.refl _
  · exact List.subset_cons_self _ _

/-- A register that is not listed and no written-back base. -/
theorem not_mem_ldmWrites {w : Bool} {rn r : Reg} {list : BitVec 16} (h : list.getLsbD r.val = false)
    (hbase : r = rn → w = false) : r ∉ ldmWrites w rn list := by
  unfold ldmWrites
  split
  · refine List.not_mem_cons_of_ne_of_not_mem (fun hr => ?_) (not_mem_registersOf.mpr h)
    exact absurd ‹w = true› (by rw [hbase hr]; exact Bool.false_ne_true)
  · exact not_mem_registersOf.mpr h

theorem BlockLoadFrame.baseWritten (w : Bool) (rn : Reg) (list : BitVec 16) (final : Word) (s : State) :
    BlockLoadFrame (ldmWrites w rn list) s (baseWritten w rn final s) := by
  cases w
  · exact .refl s
  · exact .setReg List.mem_cons_self final s

/-- An LDM without bank switch and CPSR restore writes the listed registers and a written-back base. -/
theorem loadMultiple_frame_ownBank {sb : Bool} {list : BitVec 16} (h : sb = false ∨ list.getLsbD 15 = true ∧
    s.hasSpsr = false) (p u w : Bool) (rn : Reg) :
    Ensures (loadMultiple p u sb w rn list s) (BlockLoadFrame (ldmWrites w rn list) s) := by
  have huser : (sb && !list.getLsbD 15) = false := by
    rcases h with h | ⟨h, -⟩ <;> simp [h]
  rw [loadMultiple_eq, huser]
  refine (loadRegisters_frame (registersOf_subset_ldmWrites w rn list) _ _).andThen fun m hm => ?_
  have hloaded := (BlockLoadFrame.baseWritten w rn list (blockFinal u (s.reg rn) list) s).trans hm
  have hrestore : (list.getLsbD 15 && sb && (transferBack false s m.2).hasSpsr) = false := by
    have hspsr : (transferBack false s m.2).hasSpsr = s.hasSpsr := State.hasSpsr_congr hloaded.cpsr_eq
    rcases h with h | ⟨-, h⟩ <;> simp [h, hspsr]
  unfold finishLoad
  split
  · refine ensures_next.mpr ?_
    cases w
    · exact hloaded.setBase rn
    · exact hloaded.trans (.setReg List.mem_cons_self _ m.2)
  · rw [if_neg (Bool.eq_false_iff.mp hrestore)]
    exact ensures_next.mpr hloaded

/-! ### LDM in the main bank (R268) -/

/-- What a user-bank transfer may change: registers of the list in the main bank. -/
structure UserBankFrame (rs : List Reg) (s t : State) : Prop where
  cpsr : t.cpsr = s.cpsr
  curBank : t.curBank = s.curBank
  regs : RegsSameBut rs s t
  main : RegsSameBut rs (transferView true s) (transferView true t)
  linkAndStack : s.curBank ≠ .main → t.reg 13 = s.reg 13 ∧ t.reg 14 = s.reg 14
  fiq : s.curBank = .exc .fiq → ∀ r : Reg, 8 ≤ r → r ≤ 12 → t.reg r = s.reg r
  banks : ∀ b, b ≠ .main → b ≠ s.curBank → t.bankR13.get b = s.bankR13.get b ∧ t.bankR14.get b = s.bankR14.get b
  shadows : s.curBank ≠ .exc .fiq → t.fiqShadow0 = s.fiqShadow0 ∧ t.fiqShadow1 = s.fiqShadow1

/-- The live R13 and R14 of another mode come back from the shadow slots the transfer left (R25). -/
theorem linkAndStack_switchBank_back (h : SameBanks (switchBank .main s) t) (hbank : s.curBank ≠ .main) :
    (switchBank s.curBank t).reg 13 = s.reg 13 ∧ (switchBank s.curBank t).reg 14 = s.reg 14 := by
  have hmain : t.curBank = .main := h.curBank.trans (switchBank_curBank .main s)
  rw [reg_switchBank (by rwa [hmain]), reg_switchBank (by rwa [hmain]), h.bankR13, h.bankR14,
    switchBank_bankR13 hbank.symm, switchBank_bankR14 hbank.symm, BankWords.get_put_self, BankWords.get_put_self]
  exact ⟨rfl, rfl⟩

/-- The live R8 to R12 of FIQ mode come back too. -/
theorem fiq_switchBank_back (h : SameBanks (switchBank .main s) t) (hbank : s.curBank = .exc .fiq) {r : Reg}
    (hlow : 8 ≤ r) (hhigh : r ≤ 12) : (switchBank s.curBank t).reg r = s.reg r := by
  have hmain : t.curBank = .main := h.curBank.trans (switchBank_curBank .main s)
  have hne : s.curBank ≠ .main := by rw [hbank]; decide
  have hr := r8to12_switchBank (s := t) (nb := s.curBank) (by rwa [hmain])
  rw [if_pos hbank, h.fiqShadow1, switchBank_fiqShadow1 hne.symm, if_pos hbank] at hr
  rw [← Shadow.word_r8to12 _ ⟨hlow, hhigh⟩, hr, Shadow.word_r8to12 _ ⟨hlow, hhigh⟩]

/-- The banks that are neither the mode's nor the main one, and the FIQ shadows outside FIQ mode. -/
theorem otherBanks_switchBank_back (h : SameBanks (switchBank .main s) t) :
    (∀ b, b ≠ .main → b ≠ s.curBank → (switchBank s.curBank t).bankR13.get b = s.bankR13.get b ∧
      (switchBank s.curBank t).bankR14.get b = s.bankR14.get b) ∧
    (s.curBank ≠ .exc .fiq → (switchBank s.curBank t).fiqShadow0 = s.fiqShadow0 ∧
      (switchBank s.curBank t).fiqShadow1 = s.fiqShadow1) := by
  have hmain : t.curBank = .main := h.curBank.trans (switchBank_curBank .main s)
  by_cases hbank : s.curBank = .main
  · have hself : switchBank .main s = s := by rw [← hbank, switchBank_self]
    have hback : switchBank s.curBank t = t := by rw [hbank, ← hmain, switchBank_self]
    rw [hself] at h
    rw [hback, h.bankR13, h.bankR14, h.fiqShadow0, h.fiqShadow1]
    exact ⟨fun _ _ _ => ⟨rfl, rfl⟩, fun _ => ⟨rfl, rfl⟩⟩
  · have hne : s.curBank ≠ t.curBank := by rwa [hmain]
    have hto : Bank.main ≠ s.curBank := Ne.symm hbank
    refine ⟨fun b hb hb' => ?_, fun hfiq => ?_⟩
    · rw [switchBank_bankR13 hne, switchBank_bankR14 hne, hmain, BankWords.get_put_of_ne _ _ hb,
        BankWords.get_put_of_ne _ _ hb, h.bankR13, h.bankR14, switchBank_bankR13 hto, switchBank_bankR14 hto,
        BankWords.get_put_of_ne _ _ hb', BankWords.get_put_of_ne _ _ hb']
      exact ⟨rfl, rfl⟩
    · rw [switchBank_fiqShadow0 hne, switchBank_fiqShadow1 hne, if_neg hfiq, hmain, if_neg (by decide),
        h.fiqShadow0, h.fiqShadow1, switchBank_fiqShadow0 hto, switchBank_fiqShadow1 hto, if_neg (by decide),
        if_neg hfiq]
      exact ⟨rfl, rfl⟩

theorem UserBankFrame.transferBack {rs : List Reg} (h : BlockLoadFrame rs (transferView true s) t) :
    UserBankFrame rs s (transferBack true s t) := by
  have hbanks : SameBanks (switchBank .main s) t := h.sameBanks
  obtain ⟨hothers, hshadows⟩ := otherBanks_switchBank_back hbanks
  refine ⟨?cpsr, transferBack_curBank h.sameBanks, fun r hr => reg_transferBack h.sameBanks (h.regs r hr),
    fun r hr => ?main, linkAndStack_switchBank_back hbanks, fun hfiq r => fiq_switchBank_back hbanks hfiq, hothers,
    hshadows⟩
  case cpsr => exact ((switchBank_cpsr _ t).trans h.cpsr_eq).trans (switchBank_cpsr .main s)
  case main => exact (reg_transferView_transferBack h.sameBanks r).trans (h.regs r hr)

/-- The base written to its old value, which is that of the mode's own bank (R266). -/
theorem UserBankFrame.setBase {rs : List Reg} (h : UserBankFrame rs s t) (rn : Reg) :
    UserBankFrame rs s (t.setReg rn (s.reg rn)) := by
  have hkept {r : Reg} (hr : t.reg r = s.reg r) : (t.setReg rn (s.reg rn)).reg r = s.reg r := by
    rw [State.reg_setReg]
    split
    · rw [‹r = rn›]
    · exact hr
  refine ⟨h.cpsr, h.curBank, fun r hr => hkept (h.regs r hr), fun r hr => ?main, fun hbank => ?linkAndStack,
    fun hfiq r hlow hhigh => hkept (h.fiq hfiq r hlow hhigh), h.banks, h.shadows⟩
  case main =>
    have hsame : (t.setReg rn (s.reg rn)).reg r = t.reg r := (hkept (h.regs r hr)).trans (h.regs r hr).symm
    exact ((SameBanks.setReg rn _ t).reg_transferView hsame true).trans (h.main r hr)
  case linkAndStack =>
    obtain ⟨h13, h14⟩ := h.linkAndStack hbank
    exact ⟨hkept h13, hkept h14⟩

theorem UserBankFrame.refl (rs : List Reg) (s : State) : UserBankFrame rs s s :=
  ⟨rfl, rfl, fun _ _ => rfl, fun _ _ => rfl, fun _ => ⟨rfl, rfl⟩, fun _ _ _ _ => rfl, fun _ _ _ => ⟨rfl, rfl⟩,
    fun _ => ⟨rfl, rfl⟩⟩

/-- A user-bank LDM writes listed registers of the main bank. -/
theorem loadMultiple_frame_userBank {list : BitVec 16} (h : list.getLsbD 15 = false) (p u : Bool) (rn : Reg)
    (s : State) : Ensures (loadMultiple p u true false rn list s) (UserBankFrame (registersOf list) s) := by
  rw [loadMultiple_eq, h]
  refine (loadRegisters_frame (List.Subset.refl _) _ _).andThen fun m hm => ?_
  have hback : UserBankFrame (registersOf list) s (transferBack true s m.2) := .transferBack hm
  unfold finishLoad
  split
  · exact ensures_next.mpr (hback.setBase rn)
  · rw [h, Bool.false_and, Bool.false_and]
    exact ensures_next.mpr hback

/-! ### What the stores of a block transfer change (R264) -/

/-- What the stores of an STM may change: the registers of a list, the fault latch, and what virtual writes may. -/
structure BlockStoreFrame (rs : List Reg) (s t : State) : Prop where
  regs : RegsSameBut rs s t
  rest : t = { s with regs := t.regs, tlb := t.tlb, tlbNext := t.tlbNext, cache := t.cache, busTrace := t.busTrace
                      draws := t.draws, mem := t.mem, halted := t.halted, faultPending := t.faultPending }

theorem BlockStoreFrame.refl (rs : List Reg) (s : State) : BlockStoreFrame rs s s := ⟨fun _ _ => rfl, rfl⟩

theorem BlockStoreFrame.trans {rs : List Reg} (h : BlockStoreFrame rs s t) (h' : BlockStoreFrame rs t u) :
    BlockStoreFrame rs s u := by
  refine ⟨fun r hr => (h'.regs r hr).trans (h.regs r hr), ?_⟩
  rw [h'.rest, h.rest]

theorem BlockStoreFrame.sameBanks {rs : List Reg} (h : BlockStoreFrame rs s t) : SameBanks s t := by
  rw [h.rest]
  exact ⟨rfl, rfl, rfl, rfl, rfl⟩

/-- One store changes the base it writes back, and memory where it is located. -/
theorem storeOne_frame {rs : List Reg} {pending : Option (Reg × Word)} (h : ∀ q ∈ pending, q.1 ∈ rs) (r : Reg)
    (addr : Word) (s : State) :
    Ensures (storeOne r addr pending s) fun t => BlockStoreFrame rs s t ∧ OutsideKept addr .word s s t := by
  intro t ht
  obtain ⟨m, hm, ht⟩ := andThen_eq_next.mp ht
  have hafter : RegisterLatchFrame rs m.2 t := by
    rcases m with ⟨_ | f, s1⟩ <;> rcases pending with _ | ⟨rn, final⟩ <;> cases ht
    · exact .refl s1
    · exact .setReg (h _ rfl) final s1
    · exact .latchDataFault f s1
    · exact (RegisterLatchFrame.latchDataFault f s1).trans (.setReg (h _ rfl) final _)
  have hframe : SingleStoreFrame rs s t := ⟨m.2, memWrite_frame hm, hafter⟩
  exact ⟨⟨hframe.regs, hframe.rest⟩, outsideKept_memWrite hm hafter.mem_eq⟩

/-- The places of a list of stores: that of the first, then those of the rest. -/
theorem storeTargets_cons {r : Reg} {rest : List Reg} {addr : Word} {pending : Option (Reg × Word)}
    (h : storeOne r addr pending s = .next t) : ∃ q, locate addr .word true s = .next q ∧
      storeTargets (r :: rest) addr pending s = q.1.target.toList ++ storeTargets rest (addr + 4#32) none t := by
  obtain ⟨m, hm, -⟩ := andThen_eq_next.mp h
  obtain ⟨q, hq, -⟩ := memWrite_mem hm
  refine ⟨q, hq, ?_⟩
  rw [storeTargets, h, hq]

/-- Every byte outside the places of the stores reads as before. -/
def OutsideTargets (pas : List Word) (s t : State) : Prop :=
  ∀ a, (∀ pa ∈ pas, OutsideAccess pa .word a) → t.mem.readByte a = s.mem.readByte a

theorem storeRegisters_frame {regs rs : List Reg} {pending : Option (Reg × Word)} (h : ∀ q ∈ pending, q.1 ∈ rs)
    (addr : Word) (s : State) : Ensures (storeRegisters regs addr pending s) fun t =>
      BlockStoreFrame rs s t ∧ OutsideTargets (storeTargets regs addr pending s) s t := by
  induction regs generalizing addr pending s with
  | nil => exact ensures_next.mpr ⟨.refl rs s, fun _ _ => rfl⟩
  | cons r rest ih =>
    intro t ht
    obtain ⟨s1, hs1, ht⟩ := andThen_eq_next.mp ht
    obtain ⟨hone, hkept⟩ := storeOne_frame h r addr s s1 hs1
    obtain ⟨hrest, hkept'⟩ := ih (pending := none) (fun _ hq => by cases hq) _ s1 t ht
    obtain ⟨q, hq, htargets⟩ := storeTargets_cons (rest := rest) hs1
    refine ⟨hone.trans hrest, fun a ha => ?_⟩
    rw [htargets] at ha
    rw [hkept' a fun pa hpa => ha pa (List.mem_append_right _ hpa)]
    exact hkept q hq a fun pa hpa => ha pa (List.mem_append_left _ (Option.mem_toList.mpr hpa))

/-- What an STM leaves unchanged beside the bytes outside its stores. -/
structure StmFrame (rs : List Reg) (s t : State) : Prop where
  spsr : t.spsr = s.spsr
  cp15 : t.cp15 = s.cp15
  cpsr : t.cpsr = s.cpsr
  curBank : t.curBank = s.curBank
  pf : t.pf = s.pf
  processorId : t.processorId = s.processorId
  params : t.params = s.params
  regs : RegsSameBut rs s t

theorem StmFrame.transferBack {rs : List Reg} {userBank : Bool}
    (h : BlockStoreFrame rs (transferView userBank s) t) : StmFrame rs s (transferBack userBank s t) := by
  have hregs (r : Reg) (hr : r ∉ rs) : (Machine.transferBack userBank s t).reg r = s.reg r :=
    reg_transferBack h.sameBanks (h.regs r hr)
  have hbank := transferBack_curBank h.sameBanks
  have hrest := h.rest
  rw [transferView_frame] at hrest
  refine ⟨?_, ?_, ?_, hbank, ?_, ?_, ?_, hregs⟩ <;> rw [transferBack_frame, hrest]

theorem storeMultiple_frame {sb w : Bool} (hw : (sb && w) = false) (p u : Bool) (rn : Reg) (list : BitVec 16)
    (s : State) : Ensures (storeMultiple p u sb w rn list s) fun t => StmFrame (if w then [rn] else []) s t ∧
      OutsideTargets (storeTargets (registersOf list) (blockStart p u (s.reg rn) list)
        (if w && !sb then some (rn, blockFinal u (s.reg rn) list) else none) (transferView sb s)) s t := by
  have hpending : ∀ q ∈ (if w && !sb then some (rn, blockFinal u (s.reg rn) list) else none),
      q.1 ∈ if w then [rn] else [] := by
    cases w <;> cases sb <;> simp
  rw [storeMultiple_eq]
  refine (storeRegisters_frame hpending _ _).andThen fun t ⟨hframe, hkept⟩ =>
    ensures_next.mpr ⟨.transferBack hframe, fun a ha => ?_⟩
  rw [(LdmFrame.transferBack (rs := []) sb s t).mem, hkept a ha, (LdmFrame.transferView (rs := []) sb s).mem]

/-- Settles O45: each LDM is a write-back, loads and bank switches, each STM stores and a write-back, and each part has
its frame. -/
theorem blockTransferFrame : Obligations.BlockTransferFrame := by
  unfold Obligations.BlockTransferFrame
  intro c p u sb w rn list s t
  refine ⟨fun h => ?ldm, fun h => ?stm⟩
  case ldm =>
    rcases exec_ldm_cases h with rfl | ⟨hrn, hw, hload⟩
    · have hsame : UserBankFrame (registersOf list) t t := .refl _ t
      exact ⟨fun _ => rfl, rfl, rfl, rfl, rfl, rfl, fun _ => rfl, fun _ _ _ _ => rfl,
        fun _ => ⟨rfl, rfl, fun _ _ _ => rfl, fun _ _ => rfl, rfl, rfl, rfl, rfl⟩, fun _ _ => ⟨rfl, rfl, fun _ _ => rfl,
          hsame.linkAndStack, hsame.fiq, hsame.banks, hsame.shadows⟩⟩
    · have hall := loadMultiple_ldmFrame p u sb w rn list s t hload
      refine ⟨fun a => by rw [hall.mem], hall.spsr, hall.cp15, hall.processorId, hall.halted, hall.params,
        fun hpc => ?pf, fun r hlow hr hne => ?low, fun hown => ?ownBank, fun hsb hpc => ?userBank⟩
      case pf => exact hall.pf (List.not_mem_cons_of_ne_of_not_mem (Ne.symm hrn) (not_mem_registersOf.mpr hpc))
      case low => exact hall.low r hlow (List.not_mem_cons_of_ne_of_not_mem hne (not_mem_registersOf.mpr hr))
      case ownBank =>
        have hframe := loadMultiple_frame_ownBank hown p u w rn t hload
        obtain ⟨hbank, h13, h14, h0, h1⟩ := hframe.sameBanks
        exact ⟨hframe.cpsr_eq, hbank, fun r hr hne => hframe.regs r (not_mem_ldmWrites hr fun e => absurd e hne),
          fun hnone hr => hframe.regs rn (not_mem_ldmWrites hr fun _ => hnone), h13, h14, h0, h1⟩
      case userBank =>
        subst hsb
        obtain rfl : w = false := by rwa [hpc] at hw
        have hframe := loadMultiple_frame_userBank hpc p u rn s t hload
        exact ⟨hframe.cpsr, hframe.curBank, fun r hr => hframe.main r (not_mem_registersOf.mpr hr), hframe.linkAndStack,
          hframe.fiq, hframe.banks, hframe.shadows⟩
  case stm =>
    rcases exec_stm_cases h with rfl | ⟨-, hw, hstore⟩
    · exact ⟨rfl, rfl, rfl, rfl, rfl, rfl, rfl, fun _ _ => rfl, fun _ _ => rfl⟩
    · obtain ⟨⟨hspsr, hcp15, hcpsr, hbank, hpf, hid, hparams, hregs⟩, hkept⟩ :=
        storeMultiple_frame hw p u rn list s t hstore
      exact ⟨hspsr, hcp15, hcpsr, hbank, hpf, hid, hparams, hregs, hkept⟩

/-! ### Loads with the MMU off (R72, R73, R263) -/

/-- Every access goes to its own address: no translation and no alignment fault. -/
structure State.Untranslated (s : State) : Prop where
  mmuOff : s.mmuOn = false
  alignmentOff : s.cp15.control.getLsbD 1 = false

theorem State.FlatRam.untranslated (h : s.FlatRam) : s.Untranslated := ⟨h.mmuOff, h.alignmentOff⟩

theorem State.Untranslated.congr (h : s.Untranslated) (hcp15 : t.cp15 = s.cp15) : t.Untranslated := by
  obtain ⟨hmmu, halign⟩ := h
  rw [State.mmuOn] at hmmu
  exact ⟨by rwa [State.mmuOn, hcp15], by rwa [hcp15]⟩

theorem State.Untranslated.locate (h : s.Untranslated) (va : Word) (n : Size) (isWrite : Bool) :
    locate va n isWrite s = .next (.physical (accessAddress va n), s) :=
  locate_mmuOff (alignmentFault_eq_false_iff.mpr fun ⟨_, _, hon⟩ => absurd hon (by rw [h.alignmentOff]; decide))
    h.mmuOff isWrite

theorem State.Untranslated.memRead (h : s.Untranslated) (va : Word) (n : Size) :
    memRead va n s = .next (Reply.ofBus (nonMmuError va) (busRead (accessAddress va n) n s)) := by
  rw [Machine.memRead, h.locate, andThen_next]

/-- The platform holds memory at the word of an address. -/
def State.Readable (s : State) (va : Word) : Prop :=
  busKindAt s.bus (accessAddress va .word) = .ram ∨ busKindAt s.bus (accessAddress va .word) = .rom

/-- One load of a register from memory behind the bus. -/
def loadOne (va : Reg → Word) (s : State) (r : Reg) : State :=
  (s.logBus (.read (accessAddress (va r) .word) .word)).setReg r (s.mem.readWord (accessAddress (va r) .word).toNat)

/-- The loads of the registers of a list. -/
def loadAll (va : Reg → Word) (rs : List Reg) (s : State) : State := rs.foldl (loadOne va) s

section
variable {va : Reg → Word}

theorem loadAll_frame (va : Reg → Word) (rs : List Reg) (s : State) : LoadFrame s (loadAll va rs s) := by
  induction rs generalizing s with
  | nil => exact .refl s
  | cons r rest ih => exact ((LoadFrame.logBus s _).trans (.setReg _ r _)).trans (ih (loadOne va s r))

theorem LoadFrame.sameBanks (h : LoadFrame s t) : SameBanks s t := by
  rw [h]
  exact ⟨rfl, rfl, rfl, rfl, rfl⟩

theorem reg_loadAll (va : Reg → Word) (rs : List Reg) (s : State) (r : Reg) : (loadAll va rs s).reg r =
    if r ∈ rs then s.mem.readWord (accessAddress (va r) .word).toNat else s.reg r := by
  induction rs generalizing s with
  | nil => exact (if_neg List.not_mem_nil).symm
  | cons x rest ih =>
    have hone : (loadOne va s x).reg r =
        if r = x then s.mem.readWord (accessAddress (va r) .word).toNat else s.reg r := by
      rw [loadOne, State.reg_setReg]
      split
      · rw [‹r = x›]
      · rfl
    refine (ih (loadOne va s x)).trans ?_
    rw [hone]
    by_cases hrest : r ∈ rest
    · rw [if_pos hrest, if_pos (List.mem_cons_of_mem x hrest)]
      rfl
    · simp only [hrest, List.mem_cons, or_false, if_false]

theorem busTrace_loadAll (va : Reg → Word) (rs : List Reg) (s : State) : (loadAll va rs s).busTrace =
    (rs.reverse.map fun r => .read (accessAddress (va r) .word) .word) ++ s.busTrace := by
  induction rs generalizing s with
  | nil => rfl
  | cons x rest ih =>
    refine (ih (loadOne va s x)).trans ?_
    rw [List.reverse_cons, List.map_append, List.append_assoc]
    rfl

/-- One load that memory answers. -/
theorem loadRegisters_cons_readable (h : s.Untranslated) {r : Reg} (hr : r ≠ pcReg) (hread : s.Readable (va r))
    (rest : List Reg) : loadRegisters (r :: rest) (va r) s = loadRegisters rest (va r + 4#32) (loadOne va s r) := by
  have hbus : busRead (accessAddress (va r) .word) .word s = (some (s.mem.readWord (accessAddress (va r) .word).toNat),
      s.logBus (.read (accessAddress (va r) .word) .word)) := by
    rcases hread with hkind | hkind <;> simp only [busRead, hkind] <;> rfl
  rw [loadRegisters, h.memRead, andThen_next, hbus]
  exact congrArg (andThen · _) (if_neg hr)

/-- Loads below the program counter that memory answers, and where those behind them go on. -/
theorem loadRegisters_append_readable {low rest : List Reg} {addr : Word}
    (hslots : slots (low ++ rest) addr = (low ++ rest).map fun r => (r, va r)) (h : s.Untranslated)
    (hpc : ∀ r ∈ low, r ≠ pcReg) (hread : ∀ r ∈ low, s.Readable (va r)) :
    ∃ addr', slots rest addr' = rest.map (fun r => (r, va r)) ∧
      loadRegisters (low ++ rest) addr s = loadRegisters rest addr' (loadAll va low s) := by
  induction low generalizing addr s with
  | nil => exact ⟨addr, hslots, rfl⟩
  | cons r low ih =>
    obtain ⟨hr, hlow⟩ := List.forall_mem_cons.mp hpc
    obtain ⟨hreadr, hreadlow⟩ := List.forall_mem_cons.mp hread
    obtain ⟨hhead, htail⟩ := List.cons.inj hslots
    obtain rfl : addr = va r := congrArg Prod.snd hhead
    rw [List.cons_append, loadRegisters_cons_readable h hr hreadr]
    exact ih htail (h.congr rfl) hlow hreadlow

/-- The address of the first register of a list. -/
theorem addr_eq_of_slots {r : Reg} {rest : List Reg} {addr : Word}
    (h : slots (r :: rest) addr = (r :: rest).map fun r => (r, va r)) : addr = va r :=
  congrArg Prod.snd (List.cons.inj h).1

end

theorem LoadFrame.cp15_eq (h : LoadFrame s t) : t.cp15 = s.cp15 := by rw [h]

theorem LoadFrame.bus_eq (h : LoadFrame s t) : t.bus = s.bus := by rw [h]

theorem LoadFrame.cpsr_eq (h : LoadFrame s t) : t.cpsr = s.cpsr := by rw [h]

theorem LoadFrame.faultPending_eq (h : LoadFrame s t) : t.faultPending = s.faultPending := by rw [h]

theorem State.FlatRam.congr (h : s.FlatRam) (hcp15 : t.cp15 = s.cp15) (hbus : t.bus = s.bus) : t.FlatRam := by
  obtain ⟨hmmu, halign⟩ := h.untranslated.congr hcp15
  exact ⟨hmmu, halign, fun pa => by rw [hbus]; exact h.ram pa⟩

theorem State.FlatRam.readable (h : s.FlatRam) (va : Word) : s.Readable va := .inl (h.ram _)

/-! ### LDM in flat RAM (R261 to R265, R268, R270) -/

/-- The state an LDM makes its loads in: the base written back, the main bank live in a user-bank transfer. -/
def loadStart (u userBank w : Bool) (rn : Reg) (list : BitVec 16) (s : State) : State :=
  transferView userBank (baseWritten w rn (blockFinal u (s.reg rn) list) s)

section
variable {u userBank w : Bool} {rn : Reg} {list : BitVec 16}

/-- The loads begin in a state that shares all but registers and banks with the first. -/
theorem loadStart_frame (u userBank w : Bool) (rn : Reg) (list : BitVec 16) (s : State) :
    loadStart u userBank w rn list s = { s with
      regs := (loadStart u userBank w rn list s).regs, curBank := (loadStart u userBank w rn list s).curBank
      bankR13 := (loadStart u userBank w rn list s).bankR13, bankR14 := (loadStart u userBank w rn list s).bankR14
      fiqShadow0 := (loadStart u userBank w rn list s).fiqShadow0
      fiqShadow1 := (loadStart u userBank w rn list s).fiqShadow1 } := by
  unfold loadStart
  rw [transferView_frame]
  cases w <;> rfl

theorem reg_loadStart (h : (userBank && w) = false) (u : Bool) (rn : Reg) (list : BitVec 16) (s : State) (r : Reg) :
    (loadStart u userBank w rn list s).reg r =
      if r = rn ∧ w then blockFinal u (s.reg rn) list else (transferView userBank s).reg r :=
  reg_transferView_baseWritten h rn _ s r

/-- A transfer that wrote no base back kept the banks its view shows. -/
theorem sameBanks_loadStart (h : (userBank && w) = false) (u : Bool) (rn : Reg) (list : BitVec 16) (s : State) :
    SameBanks (transferView userBank s) (loadStart u userBank w rn list s) := by
  cases userBank with
  | false => exact .baseWritten w rn _ s
  | true =>
    rw [Bool.true_and] at h
    subst h
    exact ⟨rfl, rfl, rfl, rfl, rfl⟩

theorem loadStart_flatRam (h : s.FlatRam) : (loadStart u userBank w rn list s).FlatRam := by
  refine h.congr ?_ ?_ <;> rw [loadStart_frame]

end

section
variable {p u userBank w : Bool} {rn : Reg} {list : BitVec 16}

/-- A register after the loads: its word if it is loaded, the final address if it is the written-back base. -/
theorem reg_loadAll_loadStart (h : (userBank && w) = false) (va : Reg → Word) {low : List Reg} {r : Reg}
    {isLoaded : Prop} [Decidable isLoaded] (hlow : r ∈ low ↔ isLoaded) :
    (loadAll va low (loadStart u userBank w rn list s)).reg r =
      if isLoaded then s.mem.readWord (accessAddress (va r) .word).toNat
      else if r = rn ∧ w then blockFinal u (s.reg rn) list else (transferView userBank s).reg r := by
  have hmem : (loadStart u userBank w rn list s).mem = s.mem := by rw [loadStart_frame]
  rw [reg_loadAll, reg_loadStart h, hmem]
  exact if_congr hlow rfl rfl

/-- The loads keep the banks the view of the transfer shows. -/
theorem sameBanks_loadAll_loadStart (h : (userBank && w) = false) (va : Reg → Word) (low : List Reg) :
    SameBanks (transferView userBank s) (loadAll va low (loadStart u userBank w rn list s)) :=
  (sameBanks_loadStart h u rn list s).trans (loadAll_frame va low _).sameBanks

/-- An LDM without the program counter in its list, in flat RAM. -/
theorem loadMultiple_flatRam (h : s.FlatRam) (hpc : list.getLsbD 15 = false) (p u sb w : Bool) (rn : Reg) :
    loadMultiple p u sb w rn list s = .next (transferBack sb s
      (loadAll (slotAddress p u (s.reg rn) list) (registersOf list) (loadStart u sb w rn list s))) := by
  have hstart : (loadStart u sb w rn list s).FlatRam := loadStart_flatRam h
  have hslots := slots_registersOf p u (s.reg rn) list
  rw [← List.append_nil (registersOf list)] at hslots
  obtain ⟨_, -, hload⟩ := loadRegisters_append_readable hslots hstart.untranslated
    (fun r hr hr' => by rw [hr', mem_registersOf] at hr; exact absurd hr (by rw [Bool.not_eq_true]; exact hpc))
    (fun r _ => hstart.readable _)
  rw [List.append_nil] at hload
  rw [loadMultiple_eq, hpc, Bool.not_false, Bool.and_true]
  refine (congrArg (andThen · _) hload).trans ?_
  rw [loadRegisters, andThen_next, finishLoad, hpc]
  rfl

/-- The state an LDM with the program counter in its list jumps from, in flat RAM. -/
def loadedBelowPc (p u w : Bool) (rn : Reg) (list : BitVec 16) (s : State) : State :=
  let va := slotAddress p u (s.reg rn) list
  (loadAll va ((registersOf list).filter (· < pcReg)) (loadStart u false w rn list s)).logBus
    (.read (accessAddress (va pcReg) .word) .word)

theorem loadedBelowPc_frame (p u w : Bool) (rn : Reg) (list : BitVec 16) (s : State) :
    LoadFrame s (loadedBelowPc p u w rn list s) :=
  ((LoadFrame.baseWritten w rn _ s).trans (loadAll_frame _ _ _)).trans (.logBus _ _)

theorem reg_loadedBelowPc {r : Reg} (hr : r ≠ pcReg) (p u w : Bool) (rn : Reg) (list : BitVec 16) (s : State) :
    (loadedBelowPc p u w rn list s).reg r = if list.getLsbD r.val
      then s.mem.readWord (accessAddress (slotAddress p u (s.reg rn) list r) .word).toNat
      else if r = rn ∧ w then blockFinal u (s.reg rn) list else s.reg r := by
  have hlow : r ∈ (registersOf list).filter (· < pcReg) ↔ list.getLsbD r.val = true := by
    rw [List.mem_filter, mem_registersOf, decide_eq_true_eq]
    exact and_iff_left (lt_of_le_of_ne (Fin.le_last r) hr)
  exact reg_loadAll_loadStart (userBank := false) rfl _ hlow

/-- An LDM with the program counter in its list, in flat RAM: a jump to the word of its slot, with the CPSR restore
where bit S asks for it. -/
theorem loadMultiple_flatRam_pc (h : s.FlatRam) (hpc : list.getLsbD 15 = true) (p u sb w : Bool) (rn : Reg) :
    loadMultiple p u sb w rn list s = jumpRestoring sb
      (s.mem.readWord (accessAddress (slotAddress p u (s.reg rn) list pcReg) .word).toNat)
      (loadedBelowPc p u w rn list s) := by
  let low := (registersOf list).filter (· < pcReg)
  have hstart : (loadStart u false w rn list s).FlatRam := loadStart_flatRam h
  have hslots := slots_registersOf p u (s.reg rn) list
  rw [registersOf_pc hpc] at hslots
  obtain ⟨addr, haddr, hload⟩ := loadRegisters_append_readable hslots hstart.untranslated
    (fun r hr => ne_of_lt (of_decide_eq_true (List.mem_filter.mp hr).2)) (fun r _ => hstart.readable _)
  rw [← registersOf_pc hpc] at hload
  obtain rfl := addr_eq_of_slots haddr
  have hframe := loadAll_frame (slotAddress p u (s.reg rn) list) low (loadStart u false w rn list s)
  have hmem : (loadStart u false w rn list s).mem = s.mem := by rw [loadStart_frame]
  rw [loadMultiple_eq, hpc, Bool.not_true, Bool.and_false]
  refine (congrArg (andThen · _) hload).trans ?_
  refine (loadRegisters_pc_finishLoad (hframe.flatRam hstart) hpc sb w rn _ _ _).trans ?_
  rw [hframe.mem_eq, hmem]
  rfl

end

/-- What loads and the switches of a user-bank transfer may change. -/
def BankedLoadFrame (s t : State) : Prop :=
  t = { s with regs := t.regs, curBank := t.curBank, bankR13 := t.bankR13, bankR14 := t.bankR14
               fiqShadow0 := t.fiqShadow0, fiqShadow1 := t.fiqShadow1, busTrace := t.busTrace }

theorem BankedLoadFrame.transferBack_loadAll (va : Reg → Word) (low : List Reg) (u userBank w : Bool) (rn : Reg)
    (list : BitVec 16) (s : State) :
    BankedLoadFrame s (transferBack userBank s (loadAll va low (loadStart u userBank w rn list s))) := by
  have hloaded := loadAll_frame va low (loadStart u userBank w rn list s)
  unfold LoadFrame at hloaded
  unfold BankedLoadFrame
  rw [transferBack_frame, hloaded, loadStart_frame]

/-- Settles O41: the loads are made in the transfer's bank, and what they moved is seen again from there. -/
theorem ldmLoadsFromFlatRam : Obligations.LdmLoadsFromFlatRam := by
  unfold Obligations.LdmLoadsFromFlatRam
  intro c p u sb w rn list s hc hflat hlist hrn userBank base word hw hpc
  have hexec : exec (.ldm c p u sb w rn list) s = loadMultiple p u sb w rn list s := exec_ldm_of_holds hc hlist hrn hw
  rw [hexec]
  by_cases h15 : list.getLsbD 15 = true
  · have huser : userBank = false := by simp only [userBank, h15, Bool.not_true, Bool.and_false]
    obtain ⟨hno, hword⟩ := hpc h15
    have hframe := loadedBelowPc_frame p u w rn list s
    have hload := jumpRestoring_of_no_restore hword (s := loadedBelowPc p u w rn list s)
      (hno.imp_right ((State.hasSpsr_congr hframe.cpsr_eq).trans ·))
    rw [loadMultiple_flatRam_pc hflat h15, huser]
    refine ⟨_, hload, fun r hr => ?_, (if_pos h15).mpr ⟨State.pc_setReg_pcReg _ _, rfl⟩,
      fun h => absurd h Bool.false_ne_true, hframe.curBank_eq, hframe.cpsr_eq, hframe.mem_eq, hframe.faultPending_eq⟩
    exact (State.reg_setReg_of_ne _ hr _).trans (reg_loadedBelowPc hr p u w rn list s)
  · have h15' := Bool.eq_false_iff.mpr h15
    have huser : userBank = sb := by simp only [userBank, h15', Bool.not_false, Bool.and_true]
    rw [huser] at hw ⊢
    let loaded := loadAll (slotAddress p u base list) (registersOf list) (loadStart u sb w rn list s)
    have hload : loadMultiple p u sb w rn list s = .next (transferBack sb s loaded) :=
      loadMultiple_flatRam hflat h15' p u sb w rn
    have hbanks : SameBanks (transferView sb s) loaded := sameBanks_loadAll_loadStart hw _ _
    have hframe : BankedLoadFrame s (transferBack sb s loaded) := .transferBack_loadAll _ _ u sb w rn list s
    have hregs (r : Reg) : loaded.reg r = if list.getLsbD r.val then word r
        else if r = rn ∧ w then blockFinal u base list else (transferView sb s).reg r :=
      reg_loadAll_loadStart hw _ mem_registersOf
    refine ⟨_, hload, fun r _ => (reg_transferView_transferBack hbanks r).trans (hregs r),
      (if_neg h15).mpr ⟨?pc, by rw [hframe]⟩, fun hsb hbank => ?userBank, transferBack_curBank hbanks,
      by rw [hframe], by rw [hframe], by rw [hframe]⟩
    case pc => exact reg_transferBack hbanks ((hregs 15).trans ((if_neg h15).trans (if_neg fun h => hrn h.1.symm)))
    case userBank =>
      subst hsb
      subst hw
      have huserFrame := loadMultiple_frame_userBank h15' p u rn s _ hload
      obtain ⟨h13, h14⟩ := huserFrame.linkAndStack hbank
      exact ⟨h13, h14, huserFrame.fiq⟩

/-- Settles O42: the loads below the program counter are the state the return switches the bank of. -/
theorem ldmReturnsFromException : Obligations.LdmReturnsFromException := by
  unfold Obligations.LdmReturnsFromException
  intro c p u w rn list b m s hc hflat hrn h15 hmode hbank hm base word hword
  let loaded : State := { s with regs := (loadedBelowPc p u w rn list s).regs }
  have hframe := loadedBelowPc_frame p u w rn list s
  have hreturn := jumpRestoring_of_restore hword (hframe.mode_eq.trans hmode) (hframe.curBank_eq.trans hbank)
    (by rwa [hframe.spsr_eq])
  rw [exec_ldm_pc hc hrn h15, loadMultiple_flatRam_pc hflat h15]
  refine ⟨_, loaded, hreturn, rfl, fun r hr => reg_loadedBelowPc hr p u w rn list s, fun r hr => ?regs, ?pc,
    switchBank_pf _ _, congrArg (·.get b) hframe.spsr_eq, switchBank_curBank _ _,
    (switchBank_spsr _ _).trans hframe.spsr_eq, (switchBank_mem _ _).trans hframe.mem_eq⟩
  case regs =>
    have hjumped : SameBanks loaded (jumpTo (word 15) (loadedBelowPc p u w rn list s)) :=
      have hbanks := hframe.sameBanks
      ⟨hbanks.curBank, hbanks.bankR13, hbanks.bankR14, hbanks.fiqShadow0, hbanks.fiqShadow1⟩
    exact hjumped.reg_switchBank (State.reg_setReg_of_ne _ hr _) m.bank
  case pc => exact (pc_switchBank _ _).trans (State.pc_setReg_pcReg _ _)

/-! ### LDM that faults (R266) -/

section
variable {f : FaultCode}

theorem checkAccess_denied_va {e : TlbEntry} {va : Word} {isWrite : Bool} (h : checkAccess e va isWrite s = .denied f) :
    f.va = va := by
  unfold checkAccess at h
  dsimp only at h
  repeat' split at h
  all_goals cases h
  all_goals rfl

/-- A fault on the way to an access reports the address presented (R101). -/
theorem locate_fault_va {va : Word} {n : Size} {isWrite : Bool} (h : locate va n isWrite s = .next (.fault f, t)) :
    f.va = va := by
  unfold locate at h
  split at h
  · cases h; rfl
  · split at h
    · split at h
      · cases h; rfl
      · split at h <;> cases h
        exact checkAccess_denied_va ‹_›
    · cases h

/-- The fault of a read reports the address presented (R101). -/
theorem memRead_fault_va {va : Word} {n : Size} (h : memRead va n s = .next (.fault f, t)) : f.va = va := by
  unfold memRead at h
  obtain ⟨⟨p, s0⟩, hlocate, h⟩ := andThen_eq_next.mp h
  cases p with
  | fault f' =>
    cases h
    exact locate_fault_va hlocate
  | physical pa =>
    obtain ⟨rfl, -⟩ := Reply.ofBus_fault (Host.Outcome.next.inj h)
    rfl
  | mapped e pa =>
    rcases readMapped_fault (Host.Outcome.next.inj h) with rfl | rfl <;> rfl

end

/-- Loads that stopped at a register: its fault is latched, and it and all after it are as before. -/
structure StoppedAt (va : Reg → Word) (rs : List Reg) (x : Reg) (s t : State) : Prop where
  latched : ∃ f, t.faultPending = some f ∧ f.va = va x
  regs : ∀ r, r ∉ rs ∨ x ≤ r → t.reg r = s.reg r
  pf : t.pf = s.pf

theorem loadRegisters_stopped {va : Reg → Word} {rs : List Reg} {addr : Word}
    (hslots : slots rs addr = rs.map fun r => (r, va r)) (hsorted : rs.Pairwise (· < ·))
    (hnone : s.faultPending = none) :
    Ensures (loadRegisters rs addr s) fun m => m.1 = true → ∃ x ∈ rs, StoppedAt va rs x s m.2 := by
  induction rs generalizing addr s with
  | nil => exact ensures_next.mpr nofun
  | cons y rest ih =>
    obtain ⟨hy, hrest⟩ := List.pairwise_cons.mp hsorted
    obtain rfl := addr_eq_of_slots hslots
    have hread : Ensures (memRead (va y) .word s) fun m => ReadFrame s m.2 ∧ ∀ f, m.1 = .fault f → f.va = va y := by
      rintro ⟨x, s1⟩ hm
      refine ⟨memRead_frame hm, ?_⟩
      rintro f rfl
      exact memRead_fault_va hm
    refine hread.andThen fun m ⟨hframe, hva⟩ => ?_
    have hnone' : m.2.faultPending = none := hframe.faultPending_eq.trans hnone
    split
    · rename_i f hf
      refine ensures_next.mpr fun _ => ⟨y, List.mem_cons_self, ?_⟩
      rw [latchDataFault_of_none hnone']
      exact ⟨⟨f, rfl, hva f hf⟩, fun r _ => hframe.reg_eq r, hframe.pf_eq⟩
    · by_cases hlast : y = pcReg
      · have hnil : rest = [] := List.eq_nil_iff_forall_not_mem.mpr fun x hx =>
          absurd (hy x hx) (by rw [hlast]; exact (Fin.le_last x).not_gt)
        subst hnil
        exact ensures_andThen_of_forall fun _ => ensures_next.mpr nofun
      · rename_i v _
        rw [writeReg, if_neg hlast, andThen_next]
        refine (ih (s := m.2.setReg y v) (List.cons.inj hslots).2 hrest hnone').imp fun _ hstop haborted => ?_
        obtain ⟨x, hx, hlatched, hregs, hpf⟩ := hstop haborted
        refine ⟨x, List.mem_cons_of_mem y hx, hlatched, fun r hr => ?_, hpf.trans hframe.pf_eq⟩
        have hne : r ≠ y := by
          rintro rfl
          rcases hr with hr | hr
          · exact hr List.mem_cons_self
          · exact (hy x hx).not_ge hr
        rw [hregs r (hr.imp_left fun h => fun h' => h (List.mem_cons_of_mem y h')), State.reg_setReg_of_ne _ hne,
          hframe.reg_eq]

theorem loadStart_faultPending (u userBank w : Bool) (rn : Reg) (list : BitVec 16) (s : State) :
    (loadStart u userBank w rn list s).faultPending = s.faultPending := by
  rw [loadStart_frame]

/-- The end of an LDM without a fault latches none. -/
theorem finishLoad_latchKept (sb w : Bool) (rn : Reg) (list : BitVec 16) (base final : Word) (s : State) :
    Ensures (finishLoad sb w rn list base final false s) (LatchKept s) := by
  unfold finishLoad
  rw [if_neg Bool.false_ne_true]
  split
  · exact restoreCpsr_latchKept s
  · exact ensures_next.mpr rfl

/-- An LDM that latches a fault has stopped its loads, and set its base by the abort rule. -/
theorem loadMultiple_aborted {p u sb w : Bool} {rn : Reg} {list : BitVec 16} {f : FaultCode}
    (hnone : s.faultPending = none) (h : loadMultiple p u sb w rn list s = .next t) (hf : t.faultPending = some f) :
    ∃ l, loadRegisters (registersOf list) (blockStart p u (s.reg rn) list)
        (loadStart u (sb && !list.getLsbD 15) w rn list s) = .next (true, l) ∧
      t = (transferBack (sb && !list.getLsbD 15) s l).setReg rn
        (if w then blockFinal u (s.reg rn) list else s.reg rn) := by
  rw [loadMultiple_eq] at h
  obtain ⟨⟨aborted, l⟩, hl, hfinish⟩ := andThen_eq_next.mp h
  cases aborted with
  | true =>
    cases hfinish
    exact ⟨l, hl, rfl⟩
  | false =>
    have hloaded : LatchKept (loadStart u (sb && !list.getLsbD 15) w rn list s) l :=
      (loadRegisters_loadRule (registersOf_sorted list) _ _ _ hl).2 rfl
    have hback : LatchKept l (transferBack (sb && !list.getLsbD 15) s l) := bankSwitched_latchKept _ s.curBank l
    have hkept : LatchKept (loadStart u (sb && !list.getLsbD 15) w rn list s) t :=
      (hloaded.trans hback).trans (finishLoad_latchKept sb w rn list _ _ _ t hfinish)
    rw [hkept, loadStart_faultPending, hnone] at hf
    cases hf

/-! ### A bus error in an LDM with the MMU off (R73, R266) -/

/-- A list in increasing number, cut at one of its registers. -/
theorem sorted_split {rs : List Reg} {x : Reg} (h : rs.Pairwise (· < ·)) (hx : x ∈ rs) : ∃ low high,
    rs = low ++ x :: high ∧ rs.filter (· ≤ x) = low ++ [x] ∧ ∀ r, r ∈ low ↔ r ∈ rs ∧ r < x := by
  obtain ⟨low, high, rfl⟩ := List.append_of_mem hx
  obtain ⟨-, hhigh, hcross⟩ := List.pairwise_append.mp h
  have hlow : ∀ r ∈ low, r < x := fun r hr => hcross r hr x List.mem_cons_self
  have hhigh : ∀ r ∈ high, x < r := (List.pairwise_cons.mp hhigh).1
  refine ⟨low, high, rfl, ?_, fun r => ⟨fun hr => ⟨List.mem_append_left _ hr, hlow r hr⟩, fun ⟨hr, hlt⟩ => ?_⟩⟩
  · have hkeep : low.filter (· ≤ x) = low :=
      List.filter_eq_self.mpr fun r hr => decide_eq_true (hlow r hr).le
    have hdrop : high.filter (· ≤ x) = [] :=
      List.filter_eq_nil_iff.mpr fun r hr => by rw [decide_eq_true_eq]; exact (hhigh r hr).not_ge
    have hkeepx : (x :: high).filter (· ≤ x) = x :: high.filter (· ≤ x) :=
      List.filter_cons_of_pos (decide_eq_true (le_refl x))
    rw [List.filter_append, hkeep, hkeepx, hdrop]
  · rcases List.mem_append.mp hr with hr | hr
    · exact hr
    · rcases List.mem_cons.mp hr with rfl | hr
      · exact absurd hlt (lt_irrefl _)
      · exact absurd hlt (hhigh r hr).asymm

/-- The load that meets a bus error ends the loads. -/
theorem loadRegisters_cons_busError (h : s.Untranslated) {addr : Word}
    (hkind : busKindAt s.bus (accessAddress addr .word) = .error) (r : Reg) (rest : List Reg) :
    loadRegisters (r :: rest) addr s = .next (true, latchDataFault (nonMmuError addr)
      (s.logBus (.read (accessAddress addr .word) .word))) := by
  rw [loadRegisters, h.memRead, andThen_next]
  simp only [busRead, hkind, Reply.ofBus]

/-- The state after the loads of an LDM that met a bus error behind the registers `low`, at the register `x`. -/
def stoppedByBus (va : Reg → Word) (low : List Reg) (x : Reg) (s : State) : State :=
  ((loadAll va low s).logBus (.read (accessAddress (va x) .word) .word)).setFaultPending (some (nonMmuError (va x)))

theorem loadRegisters_busError {va : Reg → Word} {low high : List Reg} {x : Reg} {addr : Word}
    (hslots : slots (low ++ x :: high) addr = (low ++ x :: high).map fun r => (r, va r)) (h : s.Untranslated)
    (hpc : ∀ r ∈ low, r ≠ pcReg) (hread : ∀ r ∈ low, s.Readable (va r)) (hnone : s.faultPending = none)
    (hkind : busKindAt s.bus (accessAddress (va x) .word) = .error) :
    loadRegisters (low ++ x :: high) addr s = .next (true, stoppedByBus va low x s) := by
  have hframe := loadAll_frame va low s
  obtain ⟨addr', haddr, hload⟩ := loadRegisters_append_readable hslots h hpc hread
  obtain rfl := addr_eq_of_slots haddr
  have hlatch : latchDataFault (nonMmuError (va x)) ((loadAll va low s).logBus
      (.read (accessAddress (va x) .word) .word)) = stoppedByBus va low x s :=
    latchDataFault_of_none (s := (loadAll va low s).logBus _) (hframe.faultPending_eq.trans hnone) _
  rw [hload, loadRegisters_cons_busError (h.congr hframe.cp15_eq) (by rwa [hframe.bus_eq]), hlatch]

/-- An LDM whose loads stop ends with its base set by the abort rule. -/
theorem loadMultiple_of_stopped {p u sb w : Bool} {rn : Reg} {list : BitVec 16} {l : State}
    (h : loadRegisters (registersOf list) (blockStart p u (s.reg rn) list)
      (loadStart u (sb && !list.getLsbD 15) w rn list s) = .next (true, l)) :
    loadMultiple p u sb w rn list s = .next ((transferBack (sb && !list.getLsbD 15) s l).setReg rn
        (if w then blockFinal u (s.reg rn) list else s.reg rn)) := by
  rw [loadMultiple_eq]
  exact congrArg (andThen · _) h

section
variable {c : Cond} {p u sb w : Bool} {rn : Reg} {list : BitVec 16} {f : FaultCode}

/-- What an LDM that faulted has done, in every state of the MMU and the cache (R266). -/
theorem exec_ldm_faulted (hnone : s.faultPending = none) (h : exec (.ldm c p u sb w rn list) s = .next t)
    (hf : t.faultPending = some f) :
    t.reg rn = (if w then blockFinal u (s.reg rn) list else s.reg rn) ∧ t.pc = s.pc ∧ t.pf = s.pf ∧ t.cpsr = s.cpsr ∧
    t.curBank = s.curBank ∧
    ∃ faulting : Reg, list.getLsbD faulting.val = true ∧ f.va = slotAddress p u (s.reg rn) list faulting ∧
      let userBank := sb && !list.getLsbD 15
      ∀ r, r ≠ rn → list.getLsbD r.val = false ∨ faulting ≤ r →
        (transferView userBank t).reg r = (transferView userBank s).reg r := by
  rcases exec_ldm_cases h with rfl | ⟨hrn, hw, hload⟩
  · rw [hnone] at hf
    cases hf
  · obtain ⟨l, hl, rfl⟩ := loadMultiple_aborted hnone hload hf
    generalize (sb && !list.getLsbD 15) = userBank at hw hl hf ⊢
    have hframe : BlockLoadFrame (registersOf list) (loadStart u userBank w rn list s) l :=
      loadRegisters_frame (List.Subset.refl _) _ _ _ hl
    have hbanks : SameBanks (transferView userBank s) l := (sameBanks_loadStart hw u rn list s).trans hframe.sameBanks
    have hstart : (loadStart u userBank w rn list s).faultPending = none := (loadStart_faultPending ..).trans hnone
    obtain ⟨x, hx, ⟨f', hlatched, hva⟩, hregs, hpf⟩ :=
      loadRegisters_stopped (slots_registersOf p u (s.reg rn) list) (registersOf_sorted list) hstart _ hl rfl
    have hf' : l.faultPending = some f := (bankSwitched_latchKept userBank s.curBank l).symm.trans hf
    obtain rfl : f' = f := Option.some.inj (hlatched.symm.trans hf')
    have hkept (r : Reg) (hr : r ≠ rn) (hnot : r ∉ registersOf list ∨ x ≤ r) :
        l.reg r = (transferView userBank s).reg r := by
      rw [hregs r hnot, reg_loadStart hw, if_neg fun h => hr h.1]
    refine ⟨State.reg_setReg_self _ _ _, ?pc, ?pf, ?cpsr, transferBack_curBank hbanks, x, mem_registersOf.mp hx, hva,
      fun r hr hnot => ?regs⟩
    case pc =>
      exact (State.pc_setReg_of_ne _ hrn _).trans
        (reg_transferBack hbanks (hkept pcReg (Ne.symm hrn) (.inr (Fin.le_last x))))
    case pf =>
      rw [State.setReg_pf, transferBack_frame, hpf, loadStart_frame]
    case cpsr =>
      rw [State.setReg_cpsr, transferBack_frame, hframe.cpsr_eq, loadStart_frame]
    case regs =>
      rw [(SameBanks.setReg rn _ _).reg_transferView (State.reg_setReg_of_ne _ hr _),
        reg_transferView_transferBack hbanks]
      exact hkept r hr (hnot.imp_left not_mem_registersOf.mpr)

/-- An LDM with the MMU off that meets a bus error at one register's slot (R73, R266). -/
theorem exec_ldm_busError {faulting : Reg} (hc : condHolds s.cpsr c = true) (h : s.Untranslated)
    (hnone : s.faultPending = none) (hrn : rn ≠ pcReg) :
    let userBank := sb && !list.getLsbD 15
    let va := slotAddress p u (s.reg rn) list
    (userBank && w) = false → list.getLsbD faulting.val = true →
    busKindAt s.bus (accessAddress (va faulting) .word) = .error →
    (∀ r : Reg, list.getLsbD r.val = true → r < faulting → s.Readable (va r)) →
    ∃ t, exec (.ldm c p u sb w rn list) s = .next t ∧ t.faultPending = some (nonMmuError (va faulting)) ∧
      (∀ r, r ≠ rn → (transferView userBank t).reg r = if list.getLsbD r.val = true ∧ r < faulting then
        s.mem.readWord (accessAddress (va r) .word).toNat else (transferView userBank s).reg r) ∧
      t.busTrace = (((registersOf list).filter (· ≤ faulting)).reverse.map
        fun r => .read (accessAddress (va r) .word) .word) ++ s.busTrace := by
  intro userBank va hw hlisted hkind hread
  obtain ⟨low, high, hsplit, hupTo, hlow⟩ :=
    sorted_split (registersOf_sorted list) (mem_registersOf.mpr hlisted)
  simp only [mem_registersOf] at hlow
  let start := loadStart u userBank w rn list s
  have hbus : start.bus = s.bus := by simp only [start]; rw [loadStart_frame]
  have hcp15 : start.cp15 = s.cp15 := by simp only [start]; rw [loadStart_frame]
  have htrace : start.busTrace = s.busTrace := by simp only [start]; rw [loadStart_frame]
  have hslots := slots_registersOf p u (s.reg rn) list
  rw [hsplit] at hslots
  have hload : loadRegisters (registersOf list) (blockStart p u (s.reg rn) list) start =
      .next (true, stoppedByBus va low faulting start) := by
    rw [hsplit]
    refine loadRegisters_busError hslots (h.congr hcp15) (fun r hr => ?_) (fun r hr => ?_)
      ((loadStart_faultPending ..).trans hnone) (by rwa [hbus])
    · exact ne_of_lt (((hlow r).mp hr).2.trans_le (Fin.le_last faulting))
    · rw [State.Readable, hbus]
      exact hread r ((hlow r).mp hr).1 ((hlow r).mp hr).2
  have hbanks : SameBanks (transferView userBank s) (stoppedByBus va low faulting start) :=
    have hloaded : SameBanks (transferView userBank s) (loadAll va low start) := sameBanks_loadAll_loadStart hw va low
    ⟨hloaded.curBank, hloaded.bankR13, hloaded.bankR14, hloaded.fiqShadow0, hloaded.fiqShadow1⟩
  have hexec := exec_ldm_of_holds (p := p) (u := u) hc (list_ne_zero_of_mem hlisted) hrn hw
  refine ⟨_, hexec.trans (loadMultiple_of_stopped hload), ?latched, fun r hr => ?regs, ?trace⟩
  case latched =>
    exact (bankSwitched_latchKept userBank s.curBank _).trans rfl
  case regs =>
    rw [(SameBanks.setReg rn _ _).reg_transferView (State.reg_setReg_of_ne _ hr _),
      reg_transferView_transferBack hbanks]
    refine (reg_loadAll_loadStart hw va (hlow r)).trans ?_
    rw [if_neg fun h : r = rn ∧ w = true => hr h.1]
  case trace =>
    rw [State.setReg_busTrace, transferBack_frame, hupTo, List.reverse_append, List.map_append, ← htrace,
      List.append_assoc, ← busTrace_loadAll]
    rfl

end

/-! ### Stores with the MMU off (R61, R71, R73, R267) -/

/-- Whether the platform refuses a write of the word of an address (R61). -/
def State.refusesWrite (s : State) (va : Word) : Bool :=
  decide (busKindAt s.bus (accessAddress va .word) = .rom ∨ busKindAt s.bus (accessAddress va .word) = .error)

/-- One store of a block transfer with the MMU off: the word passed to the bus, a refusal latched (R267). -/
def storeWord (s : State) (q : Word × Word) : State :=
  let m := writeThrough (accessAddress q.1 .word) (accessAddress q.1 .word) .word q.2 (nonMmuError q.1) s
  match m.1 with
  | some f => latchDataFault f m.2
  | none => m.2

/-- The stores of words at addresses, in the order of a list. -/
def storeAll (qs : List (Word × Word)) (s : State) : State := qs.foldl storeWord s

/-- What stores with the MMU off may change. -/
def BusStoreFrame (s t : State) : Prop :=
  t = { s with mem := t.mem, cache := t.cache, busTrace := t.busTrace, halted := t.halted
               faultPending := t.faultPending }

theorem BusStoreFrame.refl (s : State) : BusStoreFrame s s := rfl

theorem BusStoreFrame.trans (h : BusStoreFrame s t) (h' : BusStoreFrame t u) : BusStoreFrame s u := by
  unfold BusStoreFrame at *
  rw [h', h]

theorem BusStoreFrame.bus_eq (h : BusStoreFrame s t) : t.bus = s.bus := by rw [h]

theorem BusStoreFrame.cp15_eq (h : BusStoreFrame s t) : t.cp15 = s.cp15 := by rw [h]

theorem BusStoreFrame.reg_eq (h : BusStoreFrame s t) (r : Reg) : t.reg r = s.reg r := by rw [h]; rfl

theorem BusStoreFrame.sameBanks (h : BusStoreFrame s t) : SameBanks s t := by
  rw [h]
  exact ⟨rfl, rfl, rfl, rfl, rfl⟩

theorem latchDataFault_eq (f : FaultCode) (s : State) :
    latchDataFault f s = s.setFaultPending (s.faultPending.or (some f)) := by
  rw [latchDataFault]
  split <;> rename_i h
  · rw [h, Option.some_or, ← h]
    rfl
  · rw [h, Option.none_or]

/-- What one store does, by what answers at its word. -/
theorem storeWord_effect (s : State) (q : Word × Word) : BusStoreFrame s (storeWord s q) ∧
    (storeWord s q).mem = (if busKindAt s.bus (accessAddress q.1 .word) = .ram
      then s.mem.writeWord (accessAddress q.1 .word).toNat q.2 else s.mem) ∧
    (storeWord s q).busTrace = .write (accessAddress q.1 .word) .word q.2 :: s.busTrace ∧
    (storeWord s q).faultPending =
      if s.refusesWrite q.1 then s.faultPending.or (some (nonMmuError q.1)) else s.faultPending := by
  unfold State.refusesWrite
  cases hkind : busKindAt s.bus (accessAddress q.1 .word) <;>
    simp only [storeWord, writeThrough, busWrite, hkind, latchDataFault_eq] <;>
    exact ⟨rfl, rfl, rfl, rfl⟩

theorem storeWord_frame (s : State) (q : Word × Word) : BusStoreFrame s (storeWord s q) := (storeWord_effect s q).1

theorem storeAll_frame (qs : List (Word × Word)) (s : State) : BusStoreFrame s (storeAll qs s) := by
  induction qs generalizing s with
  | nil => exact .refl s
  | cons q rest ih => exact (storeWord_frame s q).trans (ih (storeWord s q))

/-- Every store is passed to the bus, refused or not (R267). -/
theorem busTrace_storeAll (qs : List (Word × Word)) (s : State) : (storeAll qs s).busTrace =
    (qs.reverse.map fun q => .write (accessAddress q.1 .word) .word q.2) ++ s.busTrace := by
  induction qs generalizing s with
  | nil => rfl
  | cons q rest ih =>
    refine (ih (storeWord s q)).trans ?_
    rw [(storeWord_effect s q).2.2.1, List.reverse_cons, List.map_append, List.append_assoc]
    rfl

theorem BusStoreFrame.refusesWrite_eq (h : BusStoreFrame s t) : t.refusesWrite = s.refusesWrite := by
  funext va
  rw [State.refusesWrite, h.bus_eq]
  rfl

/-- The fault latched is the one latched before, else that of the first refused store (R336). -/
theorem faultPending_storeAll (qs : List (Word × Word)) (s : State) : (storeAll qs s).faultPending =
    s.faultPending.or ((qs.find? fun q => s.refusesWrite q.1).map fun q => nonMmuError q.1) := by
  induction qs generalizing s with
  | nil => exact (Option.or_none).symm
  | cons q rest ih =>
    obtain ⟨hframe, -, -, hfault⟩ := storeWord_effect s q
    refine (ih (storeWord s q)).trans ?_
    rw [hframe.refusesWrite_eq, hfault, List.find?_cons]
    cases s.refusesWrite q.1
    · rfl
    · rw [if_pos rfl, Option.or_assoc, Option.some_or]
      rfl

/-! ### Memory after the stores -/

/-- Stores leave every byte outside the words they put into RAM. -/
theorem readByte_storeAll_outside {qs : List (Word × Word)} {a : Nat}
    (h : ∀ q ∈ qs, busKindAt s.bus (accessAddress q.1 .word) = .ram → OutsideAccess (accessAddress q.1 .word) .word a) :
    (storeAll qs s).mem.readByte a = s.mem.readByte a := by
  induction qs generalizing s with
  | nil => rfl
  | cons q rest ih =>
    obtain ⟨hq, hrest⟩ := List.forall_mem_cons.mp h
    obtain ⟨hframe, hmem, -, -⟩ := storeWord_effect s q
    refine (ih (s := storeWord s q) (by rwa [hframe.bus_eq])).trans ?_
    rw [hmem]
    split
    · exact s.mem.readByte_writeSize_outside (n := .word) q.2 (hq ‹_›)
    · rfl

theorem wf_mem_storeWord (h : s.mem.wf = true) (q : Word × Word) : (storeWord s q).mem.wf = true := by
  rw [(storeWord_effect s q).2.1]
  split
  · exact Memory.wf_writeWord h (end_le_of_aligned (accessAddress_word_aligned q.1)) q.2
  · exact h

/-- A byte of one aligned word lies outside every other. -/
theorem outsideAccess_of_ne {va va' : Word} (h : accessAddress va .word ≠ accessAddress va' .word) {i : Nat}
    (hi : i < 4) : OutsideAccess (accessAddress va' .word) .word ((accessAddress va .word).toNat + i) := by
  have hne : (accessAddress va .word).toNat ≠ (accessAddress va' .word).toNat := fun e => h (BitVec.eq_of_toNat_eq e)
  have hal := wordAligned_iff.mp (accessAddress_word_aligned va)
  have hal' := wordAligned_iff.mp (accessAddress_word_aligned va')
  simp only [OutsideAccess, sizeBytes]
  omega

theorem Memory.readWord_congr {m m' : Memory} {a : Nat} (h : ∀ i < 4, m.readByte (a + i) = m'.readByte (a + i)) :
    m.readWord a = m'.readWord a := by
  have h0 : m.readByte a = m'.readByte a := h 0 (by decide)
  rw [Memory.readWord, Memory.readWord, h0, h 1 (by decide), h 2 (by decide), h 3 (by decide)]

/-- Stores at different places leave each word in RAM as it was stored. -/
theorem readWord_storeAll {qs : List (Word × Word)} (hwf : s.mem.wf = true)
    (hapart : qs.Pairwise fun q q' => accessAddress q.1 .word ≠ accessAddress q'.1 .word) {q : Word × Word}
    (hq : q ∈ qs) (hkind : busKindAt s.bus (accessAddress q.1 .word) = .ram) :
    (storeAll qs s).mem.readWord (accessAddress q.1 .word).toNat = q.2 := by
  induction qs generalizing s with
  | nil => cases hq
  | cons x rest ih =>
    obtain ⟨hx, hrest⟩ := List.pairwise_cons.mp hapart
    obtain ⟨hframe, hmem, -, -⟩ := storeWord_effect s x
    rcases List.mem_cons.mp hq with rfl | hq
    · have hlater : (storeAll rest (storeWord s q)).mem.readWord (accessAddress q.1 .word).toNat =
          (storeWord s q).mem.readWord (accessAddress q.1 .word).toNat :=
        Memory.readWord_congr fun i hi => readByte_storeAll_outside fun q' hq' _ => outsideAccess_of_ne (hx q' hq') hi
      refine hlater.trans ?_
      rw [hmem, if_pos hkind]
      exact Memory.readWord_writeWord hwf (end_le_of_aligned (accessAddress_word_aligned q.1)) q.2
    · exact ih (s := storeWord s x) (wf_mem_storeWord hwf x) hrest hq (by rwa [hframe.bus_eq])

/-! ### STM with the MMU off (R264, R265) -/

theorem State.Untranslated.memWrite (h : s.Untranslated) (va v : Word) : memWrite va .word v s =
    .next (writeThrough (accessAddress va .word) (accessAddress va .word) .word v (nonMmuError va) s) := by
  have htag : tagAddress s.params (accessAddress va .word) (accessAddress va .word) = accessAddress va .word := by
    unfold tagAddress
    split <;> rfl
  rw [Machine.memWrite, h.locate, andThen_next]
  simp only [htag]

/-- One store of an STM: its word stored, then the write-back still to be done. -/
theorem storeOne_untranslated (h : s.Untranslated) (r : Reg) (va : Word) :
    storeOne r va none s = .next (storeWord s (va, s.reg r)) ∧
      ∀ rn final, storeOne r va (some (rn, final)) s = .next ((storeWord s (va, s.reg r)).setReg rn final) := by
  rw [storeOne, State.rdpc12, h.memWrite]
  refine ⟨rfl, fun rn final => ?_⟩
  rw [storeOne, State.rdpc12, h.memWrite]
  rfl

/-- A store leaves the registers, and no register but the one stored matters to it. -/
theorem storeWord_setReg (r : Reg) (v : Word) (q : Word × Word) (s : State) :
    storeWord (s.setReg r v) q = (storeWord s q).setReg r v := by
  cases hkind : busKindAt s.bus (accessAddress q.1 .word) <;>
    simp only [storeWord, writeThrough, busWrite, State.setReg_bus, hkind, latchDataFault_eq] <;>
    rfl

theorem storeAll_setReg (r : Reg) (v : Word) (qs : List (Word × Word)) (s : State) :
    storeAll qs (s.setReg r v) = (storeAll qs s).setReg r v := by
  induction qs generalizing s with
  | nil => rfl
  | cons q rest ih => exact (congrArg (storeAll rest) (storeWord_setReg r v q s)).trans (ih (storeWord s q))

section
variable {va : Reg → Word}

theorem storeRegisters_none {rs : List Reg} {addr : Word} (hslots : slots rs addr = rs.map fun r => (r, va r))
    (h : s.Untranslated) :
    storeRegisters rs addr none s = .next (storeAll (rs.map fun r => (va r, s.reg r)) s) := by
  induction rs generalizing addr s with
  | nil => rfl
  | cons r rest ih =>
    obtain rfl := addr_eq_of_slots hslots
    have hframe := storeWord_frame s (va r, s.reg r)
    rw [storeRegisters, (storeOne_untranslated h r (va r)).1, andThen_next,
      ih (List.cons.inj hslots).2 (h.congr hframe.cp15_eq)]
    simp only [hframe.reg_eq]
    rfl

/-- With a write-back the first register is stored as it was, the base behind it as its final value (R265). -/
theorem storeRegisters_pending {r : Reg} {rest : List Reg} {addr : Word}
    (hslots : slots (r :: rest) addr = (r :: rest).map fun r => (r, va r)) (h : s.Untranslated) (rn : Reg)
    (final : Word) : storeRegisters (r :: rest) addr (some (rn, final)) s = .next ((storeAll ((va r, s.reg r) ::
      rest.map fun x => (va x, if x = rn then final else s.reg x)) s).setReg rn final) := by
  obtain rfl := addr_eq_of_slots hslots
  have hframe := storeWord_frame s (va r, s.reg r)
  rw [storeRegisters, (storeOne_untranslated h r (va r)).2, andThen_next,
    storeRegisters_none (s := (storeWord s _).setReg rn final) (List.cons.inj hslots).2 (h.congr hframe.cp15_eq),
    storeAll_setReg]
  simp only [State.reg_setReg, hframe.reg_eq]
  rfl

end

/-- The word an STM stores for a register: the base behind a lower register is stored as written back (R265). -/
def storedWord (u sb w : Bool) (rn : Reg) (list : BitVec 16) (s : State) (r : Reg) : Word :=
  if r = rn ∧ w = true ∧ (registersOf list).any (· < rn) then blockFinal u (s.reg rn) list
  else (transferView sb s).reg r

/-- The stores of an STM: the address and the word of each listed register. -/
def stmStores (p u sb w : Bool) (rn : Reg) (list : BitVec 16) (s : State) : List (Word × Word) :=
  (registersOf list).map fun r => (slotAddress p u (s.reg rn) list r, storedWord u sb w rn list s r)

theorem transferView_untranslated (h : s.Untranslated) (userBank : Bool) : (transferView userBank s).Untranslated :=
  h.congr (LdmFrame.transferView (rs := []) userBank s).cp15

/-- The lowest listed register is stored as it was, every later one with the base written back. -/
theorem storedWord_of_cons {u : Bool} {rn r : Reg} {list : BitVec 16} {rest : List Reg}
    (hlist : registersOf list = r :: rest) : storedWord u false true rn list s r = s.reg r ∧
      ∀ x ∈ rest, storedWord u false true rn list s x = if x = rn then blockFinal u (s.reg rn) list else s.reg x := by
  have hsorted := registersOf_sorted list
  rw [hlist] at hsorted
  have hr := (List.pairwise_cons.mp hsorted).1
  refine ⟨if_neg ?_, fun x hx => if_congr (and_iff_left_of_imp ?_) rfl rfl⟩
  · rintro ⟨rfl, -, hany⟩
    rw [hlist, List.any_eq_true] at hany
    obtain ⟨y, hy, hlt⟩ := hany
    rcases List.mem_cons.mp hy with rfl | hy
    · exact lt_irrefl _ (of_decide_eq_true hlt)
    · exact (hr y hy).asymm (of_decide_eq_true hlt)
  · rintro rfl
    exact ⟨rfl, List.any_eq_true.mpr ⟨r, by rw [hlist]; exact List.mem_cons_self, decide_eq_true (hr x hx)⟩⟩

theorem storeMultiple_untranslated {sb w : Bool} {list : BitVec 16} (h : s.Untranslated) (hlist : list ≠ 0#16)
    (hw : (sb && w) = false) (p u : Bool) (rn : Reg) :
    storeMultiple p u sb w rn list s = .next (transferBack sb s (baseWritten w rn (blockFinal u (s.reg rn) list)
      (storeAll (stmStores p u sb w rn list s) (transferView sb s)))) := by
  have hslots := slots_registersOf p u (s.reg rn) list
  rw [storeMultiple_eq]
  cases w with
  | false =>
    have hstored (r : Reg) : storedWord u sb false rn list s r = (transferView sb s).reg r :=
      if_neg fun h => Bool.false_ne_true h.2.1
    simp only [stmStores, hstored]
    exact congrArg (andThen · _) (storeRegisters_none hslots (transferView_untranslated h sb))
  | true =>
    obtain rfl : sb = false := by rwa [Bool.and_true] at hw
    obtain ⟨r, rest, hcons⟩ := List.exists_cons_of_ne_nil (registersOf_ne_nil hlist)
    obtain ⟨hfirst, hlater⟩ := storedWord_of_cons (s := s) (u := u) (rn := rn) hcons
    rw [hcons] at hslots
    rw [stmStores, hcons, List.map_cons, hfirst, List.map_congr_left fun x hx => congrArg (Prod.mk _) (hlater x hx)]
    exact congrArg (andThen · _) (storeRegisters_pending hslots h rn _)

/-! ### What an STM with the MMU off does -/

/-- The stores of an STM go to different words. -/
theorem stmStores_apart (p u sb w : Bool) (rn : Reg) (list : BitVec 16) (s : State) :
    (stmStores p u sb w rn list s).Pairwise fun q q' => accessAddress q.1 .word ≠ accessAddress q'.1 .word := by
  have hapart := slots_apart (registersOf_length_le list) (blockStart p u (s.reg rn) list)
  rw [slots_registersOf, List.pairwise_map] at hapart
  exact List.pairwise_map.mpr hapart

/-- The registers after an STM: its stores and its bank switches leave them, the base may be written back. -/
theorem reg_transferBack_baseWritten {sb w : Bool} (hw : (sb && w) = false) (h : BusStoreFrame (transferView sb s) t)
    (rn : Reg) (final : Word) (r : Reg) :
    (transferBack sb s (baseWritten w rn final t)).reg r = if r = rn ∧ w then final else s.reg r := by
  cases w with
  | true =>
    obtain rfl : sb = false := by rwa [Bool.and_true] at hw
    refine (reg_baseWritten true rn final t r).trans ?_
    rw [h.reg_eq]
    rfl
  | false =>
    rw [if_neg fun h => Bool.false_ne_true h.2]
    exact reg_transferBack h.sameBanks (h.reg_eq r)

/-- The write-back and the bank switch behind the stores leave memory, bus record and fault latch. -/
theorem storesKept_transferBack_baseWritten (sb w : Bool) (rn : Reg) (final : Word) (s t : State) :
    let after := transferBack sb s (baseWritten w rn final t)
    after.mem = t.mem ∧ after.busTrace = t.busTrace ∧ after.faultPending = t.faultPending := by
  intro after
  have hframe : after = { baseWritten w rn final t with
      regs := after.regs, curBank := after.curBank, bankR13 := after.bankR13, bankR14 := after.bankR14
      fiqShadow0 := after.fiqShadow0, fiqShadow1 := after.fiqShadow1 } := transferBack_frame sb s _
  rw [hframe]
  cases w <;> exact ⟨rfl, rfl, rfl⟩

section
variable {c : Cond} {sb w : Bool} {rn : Reg} {list : BitVec 16}

/-- An STM with the MMU off, over a platform of any kind. -/
theorem exec_stm_untranslated (hc : condHolds s.cpsr c = true) (h : s.Untranslated) (hwf : s.mem.wf = true)
    (hlist : list ≠ 0#16) (hrn : rn ≠ pcReg) (hw : (sb && w) = false) (p u : Bool) :
    let slot := fun r => accessAddress (slotAddress p u (s.reg rn) list r) .word
    let value := storedWord u sb w rn list s
    ∃ t, exec (.stm c p u sb w rn list) s = .next t ∧
      (∀ r : Reg, list.getLsbD r.val = true → busKindAt s.bus (slot r) = .ram →
        t.mem.readWord (slot r).toNat = value r) ∧
      (∀ a, (∀ r : Reg, list.getLsbD r.val = true → busKindAt s.bus (slot r) = .ram →
        OutsideAccess (slot r) .word a) → t.mem.readByte a = s.mem.readByte a) ∧
      t.busTrace = ((registersOf list).reverse.map fun r => .write (slot r) .word (value r)) ++ s.busTrace ∧
      t.faultPending = s.faultPending.or (((registersOf list).find? fun r =>
        s.refusesWrite (slotAddress p u (s.reg rn) list r)).map fun r =>
          nonMmuError (slotAddress p u (s.reg rn) list r)) ∧
      (∀ r, t.reg r = if r = rn ∧ w then blockFinal u (s.reg rn) list else s.reg r) ∧
      t.curBank = s.curBank ∧ t.cpsr = s.cpsr ∧ t.pf = s.pf := by
  intro slot value
  let qs := stmStores p u sb w rn list s
  let view := transferView sb s
  have hview : view = { s with
      regs := view.regs, curBank := view.curBank, bankR13 := view.bankR13, bankR14 := view.bankR14
      fiqShadow0 := view.fiqShadow0, fiqShadow1 := view.fiqShadow1 } := transferView_frame sb s
  have hbus : view.bus = s.bus := by rw [hview]
  have hmem : view.mem = s.mem := by rw [hview]
  have htrace : view.busTrace = s.busTrace := by rw [hview]
  have hfault : view.faultPending = s.faultPending := by rw [hview]
  have hrefuses : view.refusesWrite = s.refusesWrite := by rw [hview]; rfl
  have hstore := storeMultiple_untranslated h hlist hw p u rn
  obtain ⟨hafter, -⟩ := storeMultiple_frame hw p u rn list s _ hstore
  obtain ⟨hmemKept, htraceKept, hfaultKept⟩ :=
    storesKept_transferBack_baseWritten sb w rn (blockFinal u (s.reg rn) list) s (storeAll qs view)
  refine ⟨_, (exec_stm_of_holds hc hlist hrn hw).trans hstore, fun r hr hkind => ?word, fun a ha => ?outside, ?trace,
    ?fault, reg_transferBack_baseWritten hw (storeAll_frame qs view) rn _, hafter.curBank, hafter.cpsr, hafter.pf⟩
  case word =>
    have hq : (slotAddress p u (s.reg rn) list r, value r) ∈ qs :=
      List.mem_map_of_mem (mem_registersOf.mpr hr)
    have hread := readWord_storeAll (s := view) (by rwa [hmem]) (stmStores_apart p u sb w rn list s) hq (by rwa [hbus])
    rw [hmemKept]
    exact hread
  case outside =>
    rw [hmemKept, readByte_storeAll_outside, hmem]
    intro q hq hkind
    obtain ⟨r, hr, rfl⟩ := List.mem_map.mp hq
    exact ha r (mem_registersOf.mp hr) (by rwa [hbus] at hkind)
  case trace =>
    rw [htraceKept, busTrace_storeAll, htrace]
    simp only [qs, stmStores, ← List.map_reverse, List.map_map]
    rfl
  case fault =>
    rw [hfaultKept, faultPending_storeAll, hrefuses, hfault]
    simp only [qs, stmStores, List.find?_map, Option.map_map]
    rfl

end

/-- Settles O43: an STM with the MMU off, whose stores are all accepted. -/
theorem stmStoresToFlatRam : Obligations.StmStoresToFlatRam := by
  unfold Obligations.StmStoresToFlatRam
  intro c p u sb w rn list s hc hflat hwf hlist hrn hw base slot
  obtain ⟨t, hexec, hword, houtside, -, hfault, hregs, hbank, hcpsr, hpf⟩ :=
    exec_stm_untranslated hc hflat.untranslated hwf hlist hrn hw p u
  refine ⟨t, hexec, fun r hr => hword r hr (hflat.ram _), fun a ha => houtside a fun r hr _ => ha r hr, hregs, hbank,
    hcpsr, hpf, ?_⟩
  have haccepts (va : Word) : s.refusesWrite va = false := by
    rw [State.refusesWrite, hflat.ram]
    rfl
  rw [hfault]
  simp only [haccepts, List.find?_eq_none.mpr fun _ _ => Bool.false_ne_true, Option.map_none, Option.or_none]

/-- Settles O44: an LDM ends where a read faults, with its base set by the abort rule; an STM makes all its stores. -/
theorem faultingBlockTransfers : Obligations.FaultingBlockTransfers := by
  unfold Obligations.FaultingBlockTransfers
  refine ⟨?faulted, ?busError, ?stm⟩
  case faulted =>
    intro c p u sb w rn list f s t hnone h hf
    exact exec_ldm_faulted hnone h hf
  case busError =>
    intro c p u sb w rn faulting list s hc hmmu halign hnone hrn userBank slot hw hlisted hkind hread
    exact exec_ldm_busError hc ⟨hmmu, halign⟩ hnone hrn hw hlisted hkind hread
  case stm =>
    intro c p u sb w rn list s hc hmmu halign hnone hwf hlist hrn hw base slot value refuses
    obtain ⟨t, hexec, hword, houtside, htrace, hfault, hrest⟩ :=
      exec_stm_untranslated hc ⟨hmmu, halign⟩ hwf hlist hrn hw p u
    rw [hnone, Option.none_or] at hfault
    exact ⟨t, hexec, hword, houtside, htrace, hfault, hrest⟩

end Sys2Proof.Machine

/-! PROOFS. Exception entry (60_exceptions.md R321, R322) and the software interrupt (45_branch_swi.md R284). -/

namespace Sys2Proof.Machine

/-! ### Exception entry (R322) -/

section
variable (b : ExcBank) (savedPC vectorPC : Word) (s : State)

@[simp] theorem raiseException_reg_lr : (raiseException b savedPC vectorPC s).reg 14 = savedPC := by
  rw [raiseException_eq, State.reg_setReg_of_ne _ (by decide), State.reg_setReg_self]

@[simp] theorem raiseException_mem : (raiseException b savedPC vectorPC s).mem = s.mem := by
  simp [raiseException_eq]

@[simp] theorem raiseException_cp15 : (raiseException b savedPC vectorPC s).cp15 = s.cp15 := by
  simp [raiseException_eq]

end

/-! ### The software interrupt (R284) -/

/-- The comment reaches neither the outcome nor the condition. -/
theorem exec_swi_of_holds {c : Cond} {s : State} (hc : condHolds s.cpsr c = true) (comment : BitVec 24) :
    exec (.swi c comment) s = .next (raiseException .svc (s.pc - 8#32) 0x08#32 s) := by
  rw [exec, execSwi, ifPassed_of_holds hc, raiseSoftwareInterrupt]

/-- Settles O47: with a passing condition SWI is the entry to the Supervisor bank, read field by field. -/
theorem softwareInterruptEntry : Obligations.SoftwareInterruptEntry := by
  unfold Obligations.SoftwareInterruptEntry
  intro c comment s hc
  refine ⟨_, exec_swi_of_holds hc comment, ?spsr, raiseException_mode .svc _ _ s, raiseException_curBank .svc _ _ s,
    ?status, raiseException_reg_lr _ _ _ s, raiseException_pc _ _ _ s, raiseException_pf _ _ _ s,
    raiseException_mem _ _ _ s, raiseException_cp15 _ _ _ s⟩
  case spsr => rw [raiseException_spsr, SpsrWords.put]
  case status => rw [raiseException_cpsr, withMode_rest]

end Sys2Proof.Machine

/-! PROOFS. Coprocessor 15 in a privileged mode (46_cp15.md R293 to R307, 93_implementation_defined.md U11). -/

namespace Sys2Proof.Machine

section

variable {s : State} {c : Cond} {opc1 opc2 : BitVec 3} {crn crm : BitVec 4} {rd : Reg}
  (hc : condHolds s.cpsr c = true) (hpriv : s.priv = true)

include hc hpriv

theorem cp15Transfer_of_priv (hrd : rd ≠ pcReg) (body : State → State) :
    cp15Transfer c rd body s = .next (body s) := by
  rw [cp15Transfer, ifPassed_of_holds hc, hpriv, Bool.not_true, if_neg Bool.false_ne_true, if_neg hrd]

theorem cp15Transfer_pc (body : State → State) : cp15Transfer c pcReg body s = .refused .cp15TransferOfPc := by
  rw [cp15Transfer, ifPassed_of_holds hc, hpriv, Bool.not_true, if_neg Bool.false_ne_true, if_pos rfl]

theorem exec_mrc_of_priv (hrd : rd ≠ pcReg) :
    exec (.mrc c opc1 crn rd opc2 crm) s = .next (s.setReg rd (cp15Read crn s)) := by
  rw [exec, execMrc, cp15Transfer_of_priv hc hpriv hrd]

theorem exec_mcr_of_priv (hrd : rd ≠ pcReg) :
    exec (.mcr c opc1 crn rd opc2 crm) s = .next (cp15Write crn opc2 (s.reg rd) s) := by
  rw [exec, execMcr, cp15Transfer_of_priv hc hpriv hrd]

theorem exec_mrc_pc : exec (.mrc c opc1 crn 15 opc2 crm) s = .refused .cp15TransferOfPc := by
  rw [exec, execMrc, cp15Transfer_pc hc hpriv]

theorem exec_mcr_pc : exec (.mcr c opc1 crn 15 opc2 crm) s = .refused .cp15TransferOfPc := by
  rw [exec, execMcr, cp15Transfer_pc hc hpriv]

end

/-- Settles O48: the register number decides what `cp15Read` gives Rd. -/
theorem cp15Reads : Obligations.Cp15Reads := by
  unfold Obligations.Cp15Reads
  intro c opc1 crn rd opc2 crm s hc hpriv
  refine ⟨fun hrd => ?_, exec_mrc_pc hc hpriv⟩
  rw [exec_mrc_of_priv hc hpriv hrd, cp15Read]

/-! ### What the write does, by register number (R298 to R305) -/

section

variable (opc2 : BitVec 3) (v : Word) (s : State)

theorem cp15Write_control : cp15Write 1#4 opc2 v s = s.setCp15 { s.cp15 with control := v } := rfl

theorem cp15Write_ttb : cp15Write 2#4 opc2 v s = s.setCp15 { s.cp15 with ttb := v } := rfl

theorem cp15Write_dac : cp15Write 3#4 opc2 v s = s.setCp15 { s.cp15 with dac := v } := rfl

theorem cp15Write_faultStatus : cp15Write 5#4 opc2 v s =
    if s.params.tVariant then s.setCp15 { s.cp15 with fsr := v } else tlbFlushAll s := rfl

theorem cp15Write_faultAddress : cp15Write 6#4 opc2 v s =
    if s.params.tVariant then s.setCp15 { s.cp15 with far := v } else tlbFlushEntry v s := rfl

theorem cp15Write_cacheClear : cp15Write 7#4 opc2 v s = cacheClear s := rfl

theorem cp15Write_tlbOperations : cp15Write 8#4 opc2 v s =
    if s.params.tVariant then if opc2 = 1#3 then tlbFlushEntry v s else tlbFlushAll s else s := rfl

/-- The ID register is read-only and the unknown numbers have no register behind them (R303). -/
theorem cp15Write_noEffect {crn : BitVec 4} (h : crn = 0#4 ∨ crn = 4#4 ∨ 9#4 ≤ crn) : cp15Write crn opc2 v s = s := by
  have hfree : crn ≠ 1#4 ∧ crn ≠ 2#4 ∧ crn ≠ 3#4 ∧ crn ≠ 5#4 ∧ crn ≠ 6#4 ∧ crn ≠ 7#4 ∧ crn ≠ 8#4 := by
    revert crn
    decide
  obtain ⟨h1, h2, h3, h5, h6, h7, h8⟩ := hfree
  rw [cp15Write, if_neg h1, if_neg h2, if_neg h3, if_neg h5, if_neg h6, if_neg h7, if_neg h8]

end

/-- Settles O49: MCR is `cp15Write` of its register number, and the variant decides for 5, 6 and 8. -/
theorem cp15Writes : Obligations.Cp15Writes := by
  unfold Obligations.Cp15Writes
  intro c opc1 rd opc2 crm s hc hpriv run
  refine ⟨fun hrd => ?_, fun crn => exec_mcr_pc hc hpriv⟩
  have hrun (crn : BitVec 4) : run crn = .next (cp15Write crn opc2 (s.reg rd) s) := exec_mcr_of_priv hc hpriv hrd
  simp only [hrun, cp15Write_faultStatus, cp15Write_faultAddress, cp15Write_tlbOperations]
  refine ⟨by rw [cp15Write_control], by rw [cp15Write_ttb], by rw [cp15Write_dac], by rw [cp15Write_cacheClear],
    fun crn hcrn => by rw [cp15Write_noEffect opc2 _ s hcrn], fun hT => ?arm710a, fun hT => ?tVariant⟩
  case arm710a =>
    rw [hT]
    exact ⟨rfl, rfl, rfl⟩
  case tVariant =>
    rw [hT]
    exact ⟨rfl, rfl, rfl⟩

end Sys2Proof.Machine

/-! PROOFS. Exceptions, interrupt requests, reset and the debug read (60_exceptions.md R322 to R347,
70_reset_and_hazards.md R360). -/

namespace Sys2Proof.Machine

variable {s : State}

/-! ### Exception entry (R322, R323) -/

/-- The registers an entry does not set are those of the bank switched in. -/
theorem raiseException_reg_of_ne {r : Reg} (hlr : r ≠ 14) (hpc : r ≠ pcReg) (b : ExcBank) (savedPC vectorPC : Word)
    (s : State) : (raiseException b savedPC vectorPC s).reg r = (switchBank (.exc b) s).reg r := by
  rw [raiseException_eq, State.reg_setReg_of_ne _ hpc, State.reg_setReg_of_ne _ hlr]
  rfl

/-- The shadow slots after an entry are those after the bank switch. -/
theorem raiseException_shadows (b : ExcBank) (savedPC vectorPC : Word) (s : State) :
    let t := raiseException b savedPC vectorPC s
    let switched := switchBank (.exc b) s
    t.bankR13 = switched.bankR13 ∧ t.bankR14 = switched.bankR14 ∧ t.fiqShadow0 = switched.fiqShadow0 ∧
      t.fiqShadow1 = switched.fiqShadow1 := by
  rw [raiseException_eq]
  exact ⟨rfl, rfl, rfl, rfl⟩

/-- An entry changes nothing but what R322 names. -/
theorem raiseException_frame (b : ExcBank) (savedPC vectorPC : Word) (s : State) :
    let t := raiseException b savedPC vectorPC s
    t = { s with regs := t.regs, curBank := t.curBank, bankR13 := t.bankR13, bankR14 := t.bankR14, cpsr := t.cpsr
                 fiqShadow0 := t.fiqShadow0, fiqShadow1 := t.fiqShadow1, spsr := t.spsr, pf := t.pf } := by
  rw [raiseException_eq]
  have hswitched := switchBank_frame (.exc b) s
  generalize switchBank (.exc b) s = switched at hswitched ⊢
  rw [hswitched]
  rfl

@[simp] theorem raiseException_params (b : ExcBank) (savedPC vectorPC : Word) (s : State) :
    (raiseException b savedPC vectorPC s).params = s.params := by
  simp [raiseException_eq]

@[simp] theorem raiseException_processorId (b : ExcBank) (savedPC vectorPC : Word) (s : State) :
    (raiseException b savedPC vectorPC s).processorId = s.processorId := by
  simp [raiseException_eq]

/-- Settles O51: the entry is the bank switch, then the updates of `raiseException_eq`. -/
theorem exceptionEntry : Obligations.ExceptionEntry := by
  unfold Obligations.ExceptionEntry
  intro b savedPC vectorPC s t
  obtain ⟨h13, h14, h0, h1⟩ := raiseException_shadows b savedPC vectorPC s
  have hspsr : t.spsr = s.spsr.put s.cpsr b := raiseException_spsr b savedPC vectorPC s
  exact ⟨by rw [hspsr, SpsrWords.get_put_self], fun b' hb => by rw [hspsr, SpsrWords.get_put_of_ne _ _ hb],
    raiseException_cpsr b _ _ s, raiseException_mode b _ _ s, raiseException_curBank b _ _ s,
    raiseException_reg_lr b _ _ s, raiseException_pc b _ _ s, raiseException_pf b _ _ s,
    fun r hlr hpc => raiseException_reg_of_ne hlr hpc b _ _ s, h13, h14, h0, h1, raiseException_frame b _ _ s⟩

/-! ### The fault latch and the report (R336, R337) -/

theorem latchDataFault_of_some {g : FaultCode} (h : s.faultPending = some g) (f : FaultCode) :
    latchDataFault f s = s := by
  rw [latchDataFault, h]

theorem FaultType.nibble_of_ne_nonMMU {type : FaultType} (h : type ≠ .nonMMU) : ∃ n, type.nibble = some n := by
  cases type with
  | nonMMU => exact absurd rfl h
  | _ => exact ⟨_, rfl⟩

/-- Settles O52: the table of R100 row by row, then the latch by what it holds and the report by the fault's type. -/
theorem faultLatchAndReport : Obligations.FaultLatchAndReport := by
  unfold Obligations.FaultLatchAndReport
  refine ⟨by decide, fun f g s => ⟨fun hnone => latchDataFault_of_none hnone f,
    fun hsome => latchDataFault_of_some hsome f, fun htype => ?synthetic, fun htype => ?reported⟩⟩
  case synthetic => rw [reportFault_eq, if_pos htype]
  case reported =>
    obtain ⟨n, hn⟩ := FaultType.nibble_of_ne_nonMMU htype
    refine ⟨n, hn, ?_⟩
    rw [reportFault_eq, if_neg htype, hn]
    rfl

/-! ### Interrupt requests (R330 to R333) -/

/-- The state a request leaves when it is accepted: the core runs, the exception of bank `b` is entered with saved PC
`nextPC + 4`, and the masks are set in the status word `status` (R330, R331, R345). -/
def interruptEntered (b : ExcBank) (vectorPC status : Word) (s : State) : State :=
  (raiseException b (s.nextPC + 4#32) vectorPC (s.setHalted false)).setCpsr status

section
variable (b : ExcBank) (vectorPC status : Word) (s : State)

theorem interruptEntered_curBank : (interruptEntered b vectorPC status s).curBank = .exc b :=
  raiseException_curBank b (s.nextPC + 4#32) vectorPC (s.setHalted false)

theorem interruptEntered_reg_lr : (interruptEntered b vectorPC status s).reg 14 = s.nextPC + 4#32 :=
  raiseException_reg_lr b (s.nextPC + 4#32) vectorPC (s.setHalted false)

theorem interruptEntered_reg_of_ne {r : Reg} (hlr : r ≠ 14) (hpc : r ≠ pcReg) :
    (interruptEntered b vectorPC status s).reg r = (switchBank (.exc b) (s.setHalted false)).reg r :=
  raiseException_reg_of_ne hlr hpc b (s.nextPC + 4#32) vectorPC (s.setHalted false)

theorem interruptEntered_shadows :
    let t := interruptEntered b vectorPC status s
    let switched := switchBank (.exc b) (s.setHalted false)
    t.bankR13 = switched.bankR13 ∧ t.bankR14 = switched.bankR14 ∧ t.fiqShadow0 = switched.fiqShadow0 ∧
      t.fiqShadow1 = switched.fiqShadow1 :=
  raiseException_shadows b (s.nextPC + 4#32) vectorPC (s.setHalted false)

theorem interruptEntered_saved : (interruptEntered b vectorPC status s).spsr.get b = s.cpsr := by
  rw [interruptEntered, State.setCpsr_spsr, raiseException_spsr, SpsrWords.get_put_self, State.setHalted_cpsr]

theorem interruptEntered_mem : (interruptEntered b vectorPC status s).mem = s.mem :=
  raiseException_mem b (s.nextPC + 4#32) vectorPC (s.setHalted false)

theorem interruptEntered_cp15 : (interruptEntered b vectorPC status s).cp15 = s.cp15 :=
  raiseException_cp15 b (s.nextPC + 4#32) vectorPC (s.setHalted false)

end

theorem requestFIQ_masked (h : flagF s.cpsr = true) : requestFIQ s = s.setHalted false := if_pos h

theorem requestIRQ_masked (h : flagI s.cpsr = true) : requestIRQ s = s.setHalted false := if_pos h

theorem requestFIQ_accepted (h : flagF s.cpsr = false) :
    requestFIQ s = interruptEntered .fiq 0x1C#32 (withMode s.cpsr .fiq ||| 0xC0#32) s := by
  have hgate : ¬ flagF (s.setHalted false).cpsr = true := Bool.eq_false_iff.mp h
  rw [requestFIQ, if_neg hgate]
  dsimp only
  rw [raiseException_cpsr]
  rfl

theorem requestIRQ_accepted (h : flagI s.cpsr = false) :
    requestIRQ s = interruptEntered .irq 0x18#32 (withMode s.cpsr .irq ||| 0x80#32) s := by
  have hgate : ¬ flagI (s.setHalted false).cpsr = true := Bool.eq_false_iff.mp h
  rw [requestIRQ, if_neg hgate]
  dsimp only
  rw [raiseException_cpsr]
  rfl

/-- Bits 7:5 of a status word whose mode is replaced, under a mask (R28). -/
theorem withMode_or_mask (cpsr : Word) (m : Mode) (mask : BitVec 3) : withMode cpsr m ||| (0#24 ++ mask ++ 0#5) =
    cpsr.extractLsb' 8 24 ++ (cpsr.extractLsb' 5 3 ||| mask) ++ m.bits := by
  have hsplit : cpsr.extractLsb' 8 24 ++ cpsr.extractLsb' 5 3 = cpsr.extractLsb' 5 27 :=
    BitVec.extractLsb'_append_extractLsb'_eq_extractLsb' rfl
  rw [withMode, ← hsplit, BitVec.or_append, BitVec.or_append, BitVec.or_zero, BitVec.or_zero]

/-- The status word of an accepted FIQ: both masks set, bit 5 as it was (R330). -/
theorem fiqStatus_eq (cpsr : Word) : withMode cpsr .fiq ||| 0xC0#32 =
    cpsr.extractLsb' 8 24 ++ 0b11#2 ++ cpsr.extractLsb' 5 1 ++ 0b10001#5 := by
  have hset : ∀ x : BitVec 3, x ||| 0b110#3 = 0b11#2 ++ x.extractLsb' 0 1 := by decide
  have hkept : (cpsr.extractLsb' 5 3).extractLsb' 0 1 = cpsr.extractLsb' 5 1 := fieldOf_fieldOf (by decide)
  rw [BitVec.append_assoc (x₁ := cpsr.extractLsb' 8 24), ← hkept]
  exact (withMode_or_mask cpsr .fiq 0b110#3).trans (by rw [hset]; rfl)

/-- The status word of an accepted IRQ: the IRQ mask set, bits 6:5 as they were (R331). -/
theorem irqStatus_eq (cpsr : Word) : withMode cpsr .irq ||| 0x80#32 =
    cpsr.extractLsb' 8 24 ++ 1#1 ++ cpsr.extractLsb' 5 2 ++ 0b10010#5 := by
  have hset : ∀ x : BitVec 3, x ||| 0b100#3 = 1#1 ++ x.extractLsb' 0 2 := by decide
  have hkept : (cpsr.extractLsb' 5 3).extractLsb' 0 2 = cpsr.extractLsb' 5 2 := fieldOf_fieldOf (by decide)
  rw [BitVec.append_assoc (x₁ := cpsr.extractLsb' 8 24), ← hkept]
  exact (withMode_or_mask cpsr .irq 0b100#3).trans (by rw [hset]; rfl)

/-- An accepted FIQ masks the IRQ (R333). -/
theorem requestFIQ_flagI (h : flagF s.cpsr = false) : flagI (requestFIQ s).cpsr = true := by
  rw [requestFIQ_accepted h, interruptEntered, State.setCpsr_cpsr, flagI, BitVec.getLsbD_or]
  exact Bool.or_true _

/-- Settles O54: the gate decides each request, and an accepted FIQ leaves the gate of the IRQ closed. -/
theorem interruptRequests : Obligations.InterruptRequests := by
  unfold Obligations.InterruptRequests
  intro s a
  refine ⟨requestFIQ_masked, requestIRQ_masked, fun hF => ?fiq, fun hI => ?irq, fun hF => ?fiqThenIrq, fun rest =>
    ⟨fun hsched => ?stepFiq, fun hsched => ?stepIrq⟩⟩
  case fiq =>
    rw [← fiqStatus_eq]
    exact requestFIQ_accepted hF
  case irq =>
    rw [← irqStatus_eq]
    exact requestIRQ_accepted hI
  case fiqThenIrq =>
    have hrunning {u : State} (hu : u.halted = false) : u.setHalted false = u := by rw [State.setHalted, ← hu]
    rw [requestIRQ_masked (requestFIQ_flagI hF), hrunning (requestFIQ_halted s)]
  case stepFiq =>
    rw [step_of_schedule_cons hsched]
    rfl
  case stepIrq =>
    rw [step_of_schedule_cons hsched]
    rfl

/-! ### The return from an interrupt (R334, R338) -/

theorem nextPC_aligned (h : s.PcAligned) : s.nextPC.extractLsb' 0 2 = 0#2 := by
  rw [State.PcAligned, wordAligned_iff] at h
  rw [wordAligned_iff, State.nextPC, BitVec.toNat_sub, BitVec.toNat_mul, BitVec.toNat_ofNat]
  omega

/-- The word of `SUBS pc, lr, #4`. -/
theorem decodeWord_subsPcLr4 : decodeWord 0xE25EF004#32 = DpOp.sub.instr .al true 14 15 (.imm 0#4 4#8) := by decide

/-- Switching back gives every live register of the interrupted bank (R25). -/
theorem reg_switchBank_interruptEntered {b : ExcBank} (hbank : s.curBank ≠ .exc b) (vectorPC status : Word) {r : Reg}
    (hr : r ≠ 15) : (switchBank s.curBank (interruptEntered b vectorPC status s)).reg r = s.reg r := by
  let running := s.setHalted false
  obtain ⟨h13, h14, h0, h1⟩ := interruptEntered_shadows b vectorPC status s
  have hcur := interruptEntered_curBank b vectorPC status s
  have hback : (switchBank s.curBank (switchBank (.exc b) running)).reg r = s.reg r :=
    reg_switchBank_back (.exc b) running r
  rw [← hback]
  by_cases hlr : r = 14
  · rw [reg_switchBank (hcur ▸ hbank), reg_switchBank (by rwa [switchBank_curBank]), hlr]
    exact congrArg (BankWords.get · s.curBank) h14
  · have hreg := interruptEntered_reg_of_ne b vectorPC status s hlr hr
    exact reg_switchBank_congr hreg (hcur.trans (switchBank_curBank (.exc b) running).symm) h13 h14 h0 h1 _

/-- The result of `SUBS pc, lr, #4` is the link register less 4 (R198). -/
theorem subsPcLr4_result {x : Word} (h : s.reg 14 = x + 4#32) :
    (DpOp.sub.value (operand1 (.imm 0#4 4#8) 14 s) (operand2Value (.imm 0#4 4#8) s).1
      (operand2Value (.imm 0#4 4#8) s).2 s).result = x := by
  have hvalue : (exactDifference (s.reg 14) 4#32 0).result = s.reg 14 - 4#32 := by
    apply BitVec.eq_of_toInt_eq
    rw [exactDifference, Nat.cast_zero, Int.sub_zero, BitVec.toInt_ofInt, BitVec.toInt_sub]
  exact hvalue.trans (by rw [h, BitVec.add_sub_cancel])

/-- `SUBS pc, lr, #4` right after an accepted interrupt is a return to the interrupted program (R334, R338). -/
theorem interruptEntered_return {b : ExcBank} (hmatches : s.BankMatches) (hpc : s.PcAligned)
    (hbank : s.curBank ≠ .exc b) (vectorPC : Word) {status : Word} (hstatus : status.extractLsb' 0 5 = b.mode.bits) :
    ∃ t, execWord 0xE25EF004#32 (interruptEntered b vectorPC status s) = .next t ∧ t.nextPC = s.nextPC ∧
      t.cpsr = s.cpsr ∧ t.curBank = s.curBank ∧ (∀ r, r ≠ 15 → t.reg r = s.reg r) ∧ t.mem = s.mem ∧
      t.cp15 = s.cp15 := by
  obtain ⟨m, hm, hcur⟩ := hmatches
  let entered := interruptEntered b vectorPC status s
  have hsaved : entered.spsr.get b = s.cpsr := interruptEntered_saved b vectorPC status s
  have hmode : entered.mode = some b.mode := (congrArg Mode.ofBits hstatus).trans (Mode.ofBits_bits b.mode)
  have hresult := subsPcLr4_result (interruptEntered_reg_lr b vectorPC status s)
  obtain ⟨t, hexec, hcpsr, htpc, hpf, htbank, hregs, -, hcp15, hmem, -⟩ :=
    dataProcessingReturnsFromException .sub .al 14 (.imm 0#4 4#8) b m entered rfl rfl hmode
      (interruptEntered_curBank b vectorPC status s) (by rw [hsaved]; exact hm)
      (by rw [hresult]; exact nextPC_aligned hpc)
  refine ⟨t, ?exec, ?nextPC, hcpsr.trans hsaved, htbank.trans hcur.symm, fun r hr => ?reg,
    hmem.trans (interruptEntered_mem b vectorPC status s), hcp15.trans (interruptEntered_cp15 b vectorPC status s)⟩
  case exec => rw [execWord, decodeWord_subsPcLr4, hexec]
  case nextPC =>
    rw [State.nextPC, htpc, hpf]
    exact (BitVec.sub_zero _).trans hresult
  case reg => rw [hregs r hr, ← hcur, reg_switchBank_interruptEntered hbank _ _ hr]

/-- Settles O55: both requests enter their bank from another one, and the return switches back. -/
theorem interruptAndReturnIsTransparent : Obligations.InterruptAndReturnIsTransparent := by
  unfold Obligations.InterruptAndReturnIsTransparent
  intro s hmatches hpc back
  have hmasked (m : Mode) {mask : Word} (hmask : mask.extractLsb' 0 5 = 0#5) :
      (withMode s.cpsr m ||| mask).extractLsb' 0 5 = m.bits := by
    rw [BitVec.extractLsb'_or, withMode_mode, hmask, BitVec.or_zero]
  refine ⟨fun hF hbank => ?fiq, fun hI hbank => ?irq⟩
  case fiq =>
    rw [requestFIQ_accepted hF]
    exact interruptEntered_return hmatches hpc hbank _ (hmasked .fiq (by decide))
  case irq =>
    rw [requestIRQ_accepted hI]
    exact interruptEntered_return hmatches hpc hbank _ (hmasked .irq (by decide))

/-! ### Reset (R46, R360) -/

theorem emptyTlb_get (i : Fin 64) : (Vector.replicate 64 TlbEntry.empty).get i = TlbEntry.empty := by
  simp [Vector.get_eq_getElem]

/-- Settles O56: the entry into the Supervisor bank is `exceptionEntry`'s; the steps of R360 after it write coprocessor
15, the TLB, the cache, the latch and the halt, and no register. -/
theorem resetProcedureFromAnyState : Obligations.ResetProcedure := by
  unfold Obligations.ResetProcedure
  refine ⟨⟨rfl, rfl, rfl, rfl, rfl, rfl, rfl, fun i => ?emptyTlb, rfl, fun set slot => ?emptyCache, rfl, rfl⟩,
    fun s => ?procedure⟩
  case emptyTlb => exact congrArg TlbEntry.addrMask (emptyTlb_get i)
  case emptyCache => simp [State.reset, linesOf, Vector.get_eq_getElem, CacheLine.empty]
  case procedure =>
    obtain ⟨hsaved, hspsr, hcpsr, hmode, hbank, hlr, hpc, hpf, hregs, h13, h14, h0, h1, -⟩ :=
      exceptionEntry .svc 0#32 0#32 s
    have hstatus : (resetProcedure s).cpsr.extractLsb' 5 27 = s.cpsr.extractLsb' 5 27 :=
      (congrArg (BitVec.extractLsb' 5 27) hcpsr).trans (high_of_append _ _)
    have hlow (r : Reg) (hr : r < 8) : (resetProcedure s).reg r = s.reg r :=
      (hregs r (hr.trans (by decide)).ne (hr.trans (by decide)).ne).trans (reg_switchBank_unbanked _ s (.inl hr))
    have hcp15 := raiseException_cp15 .svc 0#32 0#32 s
    exact ⟨hmode, hstatus, hbank, hsaved, hlr, hpc, hpf, rfl, rfl, (congrArg Cp15.ttb hcp15 :),
      (congrArg Cp15.dac hcp15 :), (congrArg Cp15.fsr hcp15 :), emptyTlb_get, rfl, cacheClear_disabled _, rfl, rfl,
      hlow, raiseException_mem .svc 0#32 0#32 s, ⟨hregs, h13, h14, h0, h1⟩, hspsr,
      raiseException_params .svc 0#32 0#32 s, raiseException_processorId .svc 0#32 0#32 s⟩

/-! ### The debug read (R347) -/

theorem translate_tlb_of_no_install (va : Word) (s : State) :
    (translate false va s).2.tlb = s.tlb ∧ (translate false va s).2.tlbNext = s.tlbNext := by
  obtain ⟨htlb, hnext, -⟩ := tableWalk_tlb va s
  unfold translate
  split
  · exact ⟨rfl, rfl⟩
  · split <;> rename_i heq <;> rw [heq] at htlb hnext <;> exact ⟨htlb, hnext⟩

theorem readVirtualDebug_tlb (va : Word) (n : Size) (s : State) :
    (readVirtualDebug va n s).2.tlb = s.tlb ∧ (readVirtualDebug va n s).2.tlbNext = s.tlbNext := by
  obtain ⟨htlb, hnext⟩ := translate_tlb_of_no_install va s
  unfold readVirtualDebug
  split
  · split <;> rename_i heq <;> rw [heq] at htlb hnext
    · exact ⟨(busRead_tlb ..).trans htlb, (busRead_tlbNext ..).trans hnext⟩
    · exact ⟨htlb, hnext⟩
  · exact ⟨busRead_tlb .., busRead_tlbNext ..⟩

/-- Settles O35: a translation that installs nothing moves the bus record and the draws only, and so does a bus read. -/
theorem debugReadChangesNothing : Obligations.DebugReadChangesNothing := by
  unfold Obligations.DebugReadChangesNothing
  intro va n s
  refine ⟨?frame, fun hoff => ?mmuOff, fun e hon hhit => ?hit⟩
  case frame =>
    obtain ⟨hframe, hcache⟩ := readVirtualDebug_frame va n s
    obtain ⟨htlb, hnext⟩ := readVirtualDebug_tlb va n s
    unfold ReadFrame at hframe
    rwa [htlb, hnext, hcache] at hframe
  case mmuOff => rw [readVirtualDebug, hoff, if_neg Bool.false_ne_true]
  case hit => rw [readVirtualDebug, if_pos hon, translate_of_hit hhit]

end Sys2Proof.Machine

/-! PROOFS. User mode (60_exceptions.md R341, R342): what an instruction executed in User mode leaves alone, and how
a tick leaves User mode. -/

namespace Sys2Proof.Machine

variable {s t u : State}

/-! ### User mode -/

theorem State.hasSpsr_of_user (h : s.mode = some .user) : s.hasSpsr = false := by
  rw [State.hasSpsr, ← Mode.bits_of_ofBits h]
  rfl

theorem State.mode_congr (h : t.cpsr = s.cpsr) : t.mode = s.mode := by
  rw [State.mode, State.modeBits, h]
  rfl

/-- A jump in User mode restores no status word, asked for or not (R216). -/
theorem ensures_jumpRestoring_of_user (h : s.mode = some .user) (restore : Bool) (v : Word) :
    Ensures (jumpRestoring restore v s) (· = jumpTo v s) := by
  by_cases hv : v.extractLsb' 0 2 = 0#2
  · rw [jumpRestoring_of_no_restore hv (.inr (State.hasSpsr_of_user h))]
    exact ensures_next.mpr rfl
  · rw [jumpRestoring_misaligned hv]
    exact ensures_refused _

/-! ### What an instruction of User mode leaves alone (R341) -/

/-- The status word, the saved ones, coprocessor 15, the parameters and the ID are as they were. -/
structure ControlKept (s t : State) : Prop where
  cpsr : t.cpsr = s.cpsr
  spsr : t.spsr = s.spsr
  cp15 : t.cp15 = s.cp15
  params : t.params = s.params
  processorId : t.processorId = s.processorId

/-- What User mode may do to the state it has no privilege over: write the flags, by an instruction that makes no
access. -/
structure Confined (s t : State) : Prop where
  belowFlags : StatusBelowFlagsSame s t
  spsr : t.spsr = s.spsr
  cp15 : t.cp15 = s.cp15
  params : t.params = s.params
  processorId : t.processorId = s.processorId
  statusOrLatch : t.cpsr = s.cpsr ∨ LatchKept s t

theorem ControlKept.refl (s : State) : ControlKept s s := ⟨rfl, rfl, rfl, rfl, rfl⟩

theorem ControlKept.trans (h : ControlKept s t) (h' : ControlKept t u) : ControlKept s u :=
  ⟨h'.cpsr.trans h.cpsr, h'.spsr.trans h.spsr, h'.cp15.trans h.cp15, h'.params.trans h.params,
    h'.processorId.trans h.processorId⟩

theorem ControlKept.confined (h : ControlKept s t) : Confined s t :=
  ⟨by rw [StatusBelowFlagsSame, h.cpsr], h.spsr, h.cp15, h.params, h.processorId, .inl h.cpsr⟩

theorem Confined.refl (s : State) : Confined s s := (ControlKept.refl s).confined

/-- An instruction that moves registers and flags only latches no fault. -/
theorem Confined.of_registerFrame (h : RegisterFrame s t) (hstatus : StatusBelowFlagsSame s t) : Confined s t := by
  refine ⟨hstatus, ?_, ?_, ?_, ?_, .inr ?_⟩ <;> rw [h]
  rfl

/-! ### Instructions that make no access -/

theorem Confined.setFlags (o : Alu) (s : State) : Confined s (s.setFlags o) :=
  .of_registerFrame rfl (statusBelowFlagsSame_setFlags o s)

theorem Confined.flagBits (v : Word) (s : State) : Confined s (s.setCpsr (withFlagBits s.cpsr v)) :=
  .of_registerFrame rfl (low_of_append _ _)

theorem Confined.jumpTo (v : Word) (s : State) : Confined s (jumpTo v s) := .of_registerFrame rfl rfl

/-- A register written, or a jump made, after the flags. -/
theorem Confined.resultWritten (sf : Bool) (o : Alu) (v : Word) (rd : Reg) (s : State) :
    Confined s ((if sf then s.setFlags o else s).setReg rd v) ∧
      Confined s (Machine.jumpTo v (if sf then s.setFlags o else s)) := by
  cases sf with
  | false => exact ⟨.of_registerFrame rfl rfl, .jumpTo v s⟩
  | true =>
    exact ⟨.of_registerFrame rfl (statusBelowFlagsSame_setFlags o s),
      .of_registerFrame rfl (statusBelowFlagsSame_setFlags o s)⟩

theorem dataTail_confined (h : s.mode = some .user) (sf : Bool) (rd : Reg) (o : Alu) :
    Ensures (dataTail sf rd o s) (Confined s) := by
  obtain ⟨hreg, hjump⟩ := Confined.resultWritten sf o o.result rd s
  by_cases hrd : rd = pcReg
  · subst hrd
    rw [dataTail_pc]
    have huser := (s.mode_flagsWritten sf o).trans h
    exact (ensures_jumpRestoring_of_user huser sf o.result).imp fun _ ht => ht ▸ hjump
  · rw [dataTail_of_ne hrd]
    exact ensures_next.mpr hreg

theorem dataOp_confined (h : s.mode = some .user) (c : Cond) (sf : Bool) (rd : Reg) (op2 : Operand2)
    (f : State → Word → Bool → Alu) : Ensures (dataOp c sf rd op2 f s) (Confined s) :=
  ensures_ifPassed (.refl s) (ensures_andThen_of_forall fun _ => dataTail_confined h sf rd _)

theorem compareOp_confined (c : Cond) (op2 : Operand2) (f : State → Word → Bool → Alu) (s : State) :
    Ensures (compareOp c op2 f s) (Confined s) :=
  ensures_ifPassed (.refl s) (ensures_andThen_of_forall fun _ => ensures_next.mpr (.setFlags _ s))

theorem multiplyOp_confined (c : Cond) (sf : Bool) (rd : Reg) (usesPc : Bool) (result : State → Word) (s : State) :
    Ensures (multiplyOp c sf rd usesPc result s) (Confined s) :=
  ensures_checked (.refl s) fun _ => ensures_next.mpr (Confined.resultWritten sf _ _ rd s).1

theorem psrTransfer_confined (c : Cond) (r : Reg) {body : State → Outcome State}
    (hbody : Ensures (body s) (Confined s)) : Ensures (psrTransfer c r body s) (Confined s) := by
  refine ensures_ifPassed (.refl s) ?_
  split
  · exact ensures_refused _
  · exact hbody

/-- In User mode MRS of the SPSR draws a free value (R220). -/
theorem execMrsSpsr_confined (h : s.mode = some .user) (c : Cond) (rd : Reg) :
    Ensures (execMrsSpsr c rd s) (Confined s) := by
  refine psrTransfer_confined c rd ?_
  rw [State.hasSpsr_of_user h, if_neg Bool.false_ne_true]
  exact ensures_next.mpr (ControlKept.confined ⟨rfl, rfl, rfl, rfl, rfl⟩)

/-- In User mode MSR of the whole status word writes the flag bits (R221). -/
theorem msrWhole_confined (h : s.mode = some .user) (v : Word) : Ensures (msrWhole v s) (Confined s) := by
  rw [msrWhole, State.not_priv_of_user h]
  exact ensures_next.mpr (.flagBits v s)

theorem msrSaved_confined (h : s.mode = some .user) (f : Word → Word) : Ensures (msrSaved f s) (Confined s) := by
  rw [msrSaved_of_no_spsr (State.hasSpsr_of_user h)]
  exact ensures_next.mpr (.refl s)

theorem writePc_controlKept (v : Word) (s : State) : Ensures (writePc v s) (ControlKept s) := by
  unfold writePc
  split
  · exact ensures_next.mpr ⟨rfl, rfl, rfl, rfl, rfl⟩
  · exact ensures_refused _

theorem ControlKept.setReg (r : Reg) (v : Word) (s : State) : ControlKept s (s.setReg r v) :=
  ⟨rfl, rfl, rfl, rfl, rfl⟩

/-! ### Transfers -/

theorem ControlKept.of_readFrame (h : ReadFrame s t) : ControlKept s t :=
  ⟨h.cpsr_eq, h.spsr_eq, h.cp15_eq, h.params_eq, h.processorId_eq⟩

theorem ControlKept.of_singleStoreFrame {rs : List Reg} (h : SingleStoreFrame rs s t) : ControlKept s t := by
  rw [h.rest]
  exact ⟨rfl, rfl, rfl, rfl, rfl⟩

theorem ControlKept.latchDataFault (f : FaultCode) (s : State) : ControlKept s (latchDataFault f s) := by
  rw [latchDataFault_eq]
  exact ⟨rfl, rfl, rfl, rfl, rfl⟩

theorem ControlKept.writeBack (p w : Bool) (rn : Reg) (target : Word) (s : State) :
    ControlKept s (writeBack p w rn target s) := by
  rw [writeBack_eq]
  exact ⟨rfl, rfl, rfl, rfl, rfl⟩

theorem writeReg_controlKept (r : Reg) (v : Word) (s : State) : Ensures (writeReg r v s) (ControlKept s) := by
  unfold writeReg
  split
  · exact writePc_controlKept v s
  · exact ensures_next.mpr (.setReg r v s)

theorem loadSingle_controlKept (n : Size) (convert : Word → Word → Word) (p u w : Bool) (rn rd : Reg) (off : Offset)
    (s : State) : Ensures (loadSingle n convert p u w rn rd off s) (ControlKept s) := by
  have hread : Ensures (memRead (transferAddress p u rn off s) n s) (ControlKept s ·.2) :=
    fun _ h => .of_readFrame (memRead_frame h)
  refine hread.andThen fun m hm => ?_
  split
  · exact ensures_next.mpr ((hm.trans (.latchDataFault _ _)).trans (.writeBack ..))
  · exact (writeReg_controlKept rd _ _).imp fun _ ht => (hm.trans (.writeBack ..)).trans ht

theorem execLdrb_controlKept (c : Cond) (p u w : Bool) (rn rd : Reg) (off : Offset) (s : State) :
    Ensures (execLdrb c p u w rn rd off s) (ControlKept s) := by
  refine ensures_checked (.refl s) fun _ => ?_
  split
  · exact ensures_refused _
  · exact loadSingle_controlKept .byte _ p u w rn rd off s

/-- In User mode no LDM restores the status word (R263, R268, R270): the mode has no SPSR. -/
theorem execLdm_controlKept (h : s.mode = some .user) (c : Cond) (p u sb w : Bool) (rn : Reg) (list : BitVec 16) :
    Ensures (execLdm c p u sb w rn list s) (ControlKept s) := by
  intro t ht
  obtain ⟨hldm, -⟩ := blockTransferFrame c p u sb w rn list s t
  obtain ⟨-, hspsr, hcp15, hid, -, hparams, -, -, hown, huserBank⟩ := hldm ht
  refine ⟨?_, hspsr, hcp15, hparams, hid⟩
  cases hsb : sb with
  | false => exact (hown (.inl hsb)).1
  | true =>
    cases hpc : list.getLsbD 15 with
    | false => exact (huserBank hsb hpc).1
    | true => exact (hown (.inr ⟨hpc, State.hasSpsr_of_user h⟩)).1

theorem execStm_controlKept (c : Cond) (p u sb w : Bool) (rn : Reg) (list : BitVec 16) (s : State) :
    Ensures (execStm c p u sb w rn list s) (ControlKept s) := by
  intro t ht
  obtain ⟨-, hstm⟩ := blockTransferFrame c p u sb w rn list s t
  obtain ⟨hspsr, hcp15, hcpsr, -, -, hid, hparams, -⟩ := hstm ht
  exact ⟨hcpsr, hspsr, hcp15, hparams, hid⟩

/-! ### Every instruction -/

/-- An instruction of User mode is confined or one of the two entries (R341). -/
def UserStep (s t : State) : Prop := Confined s t ∨ t = raiseSoftwareInterrupt s ∨ t = raiseUndefined s

theorem UserStep.raiseUnrecognised (s : State) : UserStep s (raiseUnrecognised s) := by
  unfold Machine.raiseUnrecognised
  split
  · exact .inr (.inl rfl)
  · exact .inr (.inr rfl)

theorem undefinedOp_userStep (c : Cond) (s : State) : Ensures (undefinedOp c s) (UserStep s) :=
  ensures_ifPassed (.inl (.refl s)) (ensures_next.mpr (.inr (.inr rfl)))

/-- In User mode a coprocessor-15 transfer reads and writes nothing (R291). -/
theorem cp15Transfer_userStep (h : s.mode = some .user) (c : Cond) (rd : Reg) (body : State → State) :
    Ensures (cp15Transfer c rd body s) (UserStep s) := by
  refine ensures_ifPassed (.inl (.refl s)) ?_
  rw [State.not_priv_of_user h]
  exact ensures_next.mpr (.raiseUnrecognised s)

theorem exec_userStep (h : s.mode = some .user) (i : Instr) : Ensures (exec i s) (UserStep s) := by
  have hconfined {o : Outcome State} (ho : Ensures o (Confined s)) : Ensures o (UserStep s) := ho.imp fun _ => .inl
  have hkept {o : Outcome State} (ho : Ensures o (ControlKept s)) : Ensures o (UserStep s) :=
    ho.imp fun _ ht => .inl ht.confined
  have hidle : ControlKept s s := .refl s
  unfold exec
  cases i with
  | ldm => exact hkept (execLdm_controlKept h _ _ _ _ _ _ _)
  | stm => exact hkept (execStm_controlKept _ _ _ _ _ _ _ s)
  | and | eor | sub | rsb | add | adc | sbc | rsc | orr | mov | bic | mvn =>
    exact hconfined (dataOp_confined h _ _ _ _ _)
  | tst | teq | cmp | cmn => exact hconfined (compareOp_confined _ _ _ s)
  | mrsCpsr c rd => exact hconfined (psrTransfer_confined c rd (ensures_next.mpr (ControlKept.setReg rd _ s).confined))
  | mrsSpsr c rd => exact hconfined (execMrsSpsr_confined h c rd)
  | msrCpsr c rm => exact hconfined (psrTransfer_confined c rm (msrWhole_confined h _))
  | msrCpsrFlgReg c rm => exact hconfined (psrTransfer_confined c rm (ensures_next.mpr (.flagBits _ s)))
  | msrCpsrFlgImm => exact hconfined (ensures_ifPassed (.refl s) (ensures_next.mpr (.flagBits _ s)))
  | msrSpsr c rm | msrSpsrFlgReg c rm => exact hconfined (psrTransfer_confined c rm (msrSaved_confined h _))
  | msrSpsrFlgImm => exact hconfined (ensures_ifPassed (.refl s) (msrSaved_confined h _))
  | mul | mla => exact hconfined (multiplyOp_confined _ _ _ _ _ s)
  | swp | swpb =>
    exact hkept (ensures_checked hidle fun _ =>
      (swapOp_frame _ _ _ _ _ s).imp fun _ ⟨hframe, _⟩ => .of_singleStoreFrame hframe)
  | ldr => exact hkept (ensures_checked hidle fun _ => loadSingle_controlKept _ _ _ _ _ _ _ _ s)
  | ldrb => exact hkept (execLdrb_controlKept _ _ _ _ _ _ _ s)
  | str | strb =>
    exact hkept (ensures_checked hidle fun _ =>
      (storeSingle_frame _ _ _ _ _ _ _ s).imp fun _ ⟨hframe, _⟩ => .of_singleStoreFrame hframe)
  | b => exact hkept (ensures_ifPassed hidle (writePc_controlKept _ s))
  | bl =>
    exact hkept (ensures_ifPassed hidle
      ((writePc_controlKept _ _).imp fun _ ht => (ControlKept.setReg 14 _ s).trans ht))
  | swi => exact ensures_ifPassed (.inl (.refl s)) (ensures_next.mpr (.inr (.inl rfl)))
  | mrc | mcr => exact cp15Transfer_userStep h _ _ _
  | undefined011x1 | undefinedLdcStc | undefinedCdp | undefinedMrcMcrNotP15 => exact undefinedOp_userStep _ s
  | uppTrap => exact ensures_ifPassed (.inl (.refl s)) (ensures_next.mpr (.raiseUnrecognised s))
  | uppBits4And7 => exact ensures_ifPassed (.inl (.refl s)) (ensures_refused _)
  | nvAny => exact hkept (ensures_next.mpr hidle)

/-- Settles O59: an entry leaves coprocessor 15, the parameters and the ID alone, and every other instruction is
confined. -/
theorem userModeIsConfined : Obligations.UserModeIsConfined := by
  unfold Obligations.UserModeIsConfined
  intro i s t huser hexec
  rcases exec_userStep huser i t hexec with hconfined | rfl | rfl
  · obtain ⟨hbelow, hspsr, hcp15, hparams, hid, -⟩ := hconfined
    exact ⟨hcp15, hparams, hid, .inl ⟨hbelow, hspsr⟩⟩
  · exact ⟨raiseException_cp15 _ _ _ s, raiseException_params _ _ _ s, raiseException_processorId _ _ _ s,
      .inr (.inl rfl)⟩
  · exact ⟨raiseException_cp15 _ _ _ s, raiseException_params _ _ _ s, raiseException_processorId _ _ _ s,
      .inr (.inr rfl)⟩

/-! ### The tick in User mode (R342) -/

/-- The state is at the vector of an exception of bank `b`, entered from the status word `status` (R321, R322). -/
structure EnteredFrom (status : Word) (b : ExcBank) (vectorPC : Word) (t : State) : Prop where
  pf : t.pf = .empty
  pc : t.pc = vectorPC
  mode : t.mode = some b.mode
  saved : t.spsr.get b = status
  masks : t.cpsr.extractLsb' 5 23 = status.extractLsb' 5 23

theorem raiseException_enteredFrom (b : ExcBank) (savedPC vectorPC : Word) (s : State) :
    EnteredFrom s.cpsr b vectorPC (raiseException b savedPC vectorPC s) where
  pf := raiseException_pf ..
  pc := raiseException_pc ..
  mode := raiseException_mode ..
  saved := by rw [raiseException_spsr, SpsrWords.get_put_self]
  masks := by
    have hbelow (w : Word) : w.extractLsb' 5 23 = (w.extractLsb' 5 27).extractLsb' 0 23 := by
      ext i hi
      simp [show i < 27 by omega]
    rw [raiseException_cpsr, hbelow, withMode_rest, ← hbelow]

/-- A tick that finds the User status word `status` keeps it but for the flags, or ends in one of the exceptions a tick
can raise (R342). -/
inductive UserTick (status : Word) (t : State) : Prop
  | stays (h : t.cpsr.extractLsb' 0 28 = status.extractLsb' 0 28)
  | undefined (h : EnteredFrom status .und 0x04#32 t)
  | softwareInterrupt (h : EnteredFrom status .svc 0x08#32 t)
  | prefetchAbort (h : EnteredFrom status .abt 0x0C#32 t)
  | dataAbort (h : EnteredFrom status .abt 0x10#32 t)

theorem reportFault_cpsr (f : FaultCode) (s : State) : (reportFault f s).cpsr = s.cpsr := by
  unfold reportFault
  split <;> rfl

theorem prefetchAbort_enteredFrom (f : FaultCode) (s : State) :
    EnteredFrom s.cpsr .abt 0x0C#32 (prefetchAbort f s) := by
  rw [← reportFault_cpsr f s]
  exact raiseException_enteredFrom ..

theorem dataAbort_enteredFrom (f : FaultCode) (s : State) : EnteredFrom s.cpsr .abt 0x10#32 (dataAbort f s) := by
  rw [← reportFault_cpsr f s]
  exact raiseException_enteredFrom ..

/-- A fault latched by an instruction of User mode finds the status word as it was, so that word is saved (R329). -/
theorem takePendingAbort_userTick {i : Instr} (huser : s.mode = some .user) (hnone : s.faultPending = none)
    (h : exec i s = .next t) : UserTick s.cpsr (takePendingAbort t) := by
  have hquiet (hlatch : LatchKept s t) : takePendingAbort t = t := takePendingAbort_none (Eq.trans hlatch hnone)
  rcases exec_userStep huser i t h with hconfined | rfl | rfl
  · cases hpending : t.faultPending with
    | none =>
      rw [takePendingAbort_none hpending]
      exact .stays hconfined.belowFlags
    | some f =>
      have hstatus : (t.setFaultPending none).cpsr = s.cpsr := hconfined.statusOrLatch.resolve_right fun hlatch => by
        rw [hlatch, hnone] at hpending
        cases hpending
      rw [takePendingAbort_some hpending, ← hstatus]
      exact .dataAbort (dataAbort_enteredFrom f _)
  · rw [hquiet (raiseException_faultPending ..)]
    exact .softwareInterrupt (raiseException_enteredFrom ..)
  · rw [hquiet (raiseException_faultPending ..)]
    exact .undefined (raiseException_enteredFrom ..)

/-- The popped slot is an instruction of User mode or a fault to take (R164, R165). -/
theorem runSlot_userTick (huser : s.mode = some .user) (hnone : s.faultPending = none) (slot : Slot) :
    Ensures (andThen (runSlot execWord slot s) fun t => .next (takePendingAbort t)) (UserTick s.cpsr) := by
  cases slot with
  | word w =>
    exact Ensures.andThen (P := fun t => exec (decodeWord w) s = .next t) (fun _ h => h) fun t ht =>
      ensures_next.mpr (takePendingAbort_userTick huser hnone ht)
  | fault f =>
    have hlatch : (prefetchAbort f s).faultPending = none := by
      rw [prefetchAbort, raiseException_faultPending, reportFault_faultPending, hnone]
    refine ensures_next.mpr ?_
    rw [takePendingAbort_none hlatch]
    exact .prefetchAbort (prefetchAbort_enteredFrom f s)

theorem ensures_tick_of_user (huser : s.mode = some .user) (hnone : s.faultPending = none) :
    Ensures (tickWith execWord s) (UserTick s.cpsr) := by
  have hfetch (q : Slot → Prefetch) : Ensures (fetch s) fun m =>
      (advance (q m.1) m.2).cpsr = s.cpsr ∧ (advance (q m.1) m.2).faultPending = none :=
    fun _ h => ⟨(fetch_frame h).cpsr_eq, (advance_faultPending_of_fetch h _).trans hnone⟩
  have hfill (q : Slot → Prefetch) :
      Ensures (andThen (fetch s) fun m => .next (advance (q m.1) m.2)) (UserTick s.cpsr) :=
    (hfetch q).andThen fun m ⟨hcpsr, _⟩ => ensures_next.mpr (.stays (by rw [hcpsr]))
  have hpop (a : Slot) (q : Slot → Prefetch) : Ensures (andThen (fetch s) fun m =>
      andThen (runSlot execWord a (advance (q m.1) m.2)) fun t => .next (takePendingAbort t)) (UserTick s.cpsr) :=
    (hfetch q).andThen fun m ⟨hcpsr, hlatch⟩ =>
      hcpsr ▸ runSlot_userTick ((State.mode_congr hcpsr).trans huser) hlatch a
  unfold tickWith
  split
  · exact ensures_next.mpr (.stays rfl)
  · split
    · exact hfill .one
    · exact hfill (.two _)
    · exact hpop _ (.two _)

/-- Settles O60: the vectors of the four exceptions a tick can raise, each with the User status word saved. -/
theorem userModeLeavesByExceptionOnly : Obligations.UserModeLeavesByExceptionOnly := by
  unfold Obligations.UserModeLeavesByExceptionOnly
  intro s t huser hsched hnone hstep
  rw [step_of_schedule_nil hsched] at hstep
  cases ensures_tick_of_user huser hnone t hstep with
  | stays h => exact .inl h
  | undefined h => exact .inr ⟨h.pf, h.masks, .inl ⟨h.pc, h.mode, h.saved⟩⟩
  | softwareInterrupt h => exact .inr ⟨h.pf, h.masks, .inr (.inl ⟨h.pc, h.mode, h.saved⟩)⟩
  | prefetchAbort h => exact .inr ⟨h.pf, h.masks, .inr (.inr ⟨.inl h.pc, h.mode, h.saved⟩)⟩
  | dataAbort h => exact .inr ⟨h.pf, h.masks, .inr (.inr ⟨.inr h.pc, h.mode, h.saved⟩)⟩

end Sys2Proof.Machine
